-- ==== Sys2Proof/Word.lean ====
section
/-! DEFINITION. The byte of the vehicle line, and the four-fold and two-fold groups the part is built in. -/

namespace Sys2Proof

/-- One byte of a frame on the vehicle line (R164, R208). -/
abbrev Byte := BitVec 8

/-- One value for each of the four actuator channels C1 to C4 (R1). -/
structure Quad (α : Type) where
  c1 : α
  c2 : α
  c3 : α
  c4 : α
  deriving DecidableEq, Repr

/-- One value for each of the two tachometers (R52). -/
structure Duo (α : Type) where
  t1 : α
  t2 : α
  deriving DecidableEq, Repr

end Sys2Proof
end

