-- ==== Sys2Proof/Syntax.lean ====
section
/-! DEFINITION. The commands of the WS40: one constructor of `Instr` for each row of spec/opcode_table.json, with the
operands its rule names. A request row carries the frame's header and the fields of its payload (section 12.3); an event
row carries what the event brings with it (a reading, a raw code, the bits between two flags). -/

namespace Sys2Proof

/-- An actuator channel (R1). -/
inductive Chan where
  | c1 | c2 | c3 | c4
  deriving DecidableEq, Repr

/-- A tachometer (R52). -/
inductive Tacho where
  | t1 | t2
  deriving DecidableEq, Repr

/-- A master of the vehicle line, known by its address alone (R143). -/
inductive Master where
  | cabA | cabB | brake | maint
  deriving DecidableEq, Repr

/-- Whether a frame bears the part's own address or the broadcast address 31 (R168). -/
inductive Dest where
  | addressed | broadcast
  deriving DecidableEq, Repr

/-- The header of a request frame that has passed the address filter (R168): who sent it, and how it was addressed. -/
structure Hdr where
  src : Master
  dest : Dest
  deriving DecidableEq, Repr

/-- The two signals of a quadrature tachometer (R211, pin list). -/
inductive TachoSignal where
  | a | b
  deriving DecidableEq, Repr

/-- One edge of a tachometer: the signal that changed, and the levels of both signals after it (R211). -/
structure TachoEdge where
  signal : TachoSignal
  levelA : Bool
  levelB : Bool
  deriving DecidableEq, Repr

/-- The four sensor pins of one channel, LKEk, LKRk, CTLk and CTRk (R211). -/
structure SensorPins where
  lke : Bool
  lkr : Bool
  ctl : Bool
  ctr : Bool
  deriving DecidableEq, Repr

/-- The fields of OPEN_ROUTE (R16, section 12.3). -/
structure OpenRouteFields where
  lead : Nat
  r0 : Nat
  firstIndex : Nat
  rRef : Nat
  u0 : Nat
  deriving DecidableEq, Repr

/-- The 24 bytes of a segment record as APPEND_SEGMENT carries them (section 12.4). -/
structure SegmentFields where
  index : Nat
  kind : Nat
  marker : Nat
  length : Nat
  kStart : Int
  kEnd : Int
  cap : Nat
  beaconId : Nat
  beaconOffset : Nat
  deriving DecidableEq, Repr

/-- The kinds of request, by the names of section 12.2. -/
inductive Kind where
  | claim | release | offer | accept
  | openRoute | appendSegment | closeRoute | place | speedReference
  | unlock | calibrate | centreAll
  | hold | resume | clearFaults
  | setConfig | setGain | sleep | restart
  | readStatus | readPosition | readChannel | readWindow | readFaults
  deriving DecidableEq, Repr

/-- A request as the receive queue holds it: its fields, or the reason why it has none (a payload of a length its kind
does not allow, a kind byte that names no kind), which the Line Interface judges at the frame's service (R171, R208). -/
inductive Request where
  | claim
  | release
  | offer (target : Nat)
  | accept
  | openRoute (f : OpenRouteFields)
  | appendSegment (f : SegmentFields)
  | closeRoute
  | place (rRef u : Nat)
  | speedReference (v : Int) (flags : Nat)
  | unlock
  | calibrate (channel : Nat)
  | centreAll
  | hold (mode : Nat)
  | resume
  | clearFaults
  | setConfig (param channel : Nat) (value : Int)
  | setGain (gain : Nat)
  | sleep
  | restart
  | readStatus
  | readPosition
  | readChannel (channel : Nat)
  | readWindow (position : Nat)
  | readFaults (position : Nat)
  | badLength (kind : Kind)
  | unknownKind (code : Nat)
  deriving DecidableEq, Repr

/-- The commands of the part. -/
inductive Instr where
  -- The Route Window
  | openRoute (h : Hdr) (f : OpenRouteFields)
  | appendSegment (h : Hdr) (f : SegmentFields)
  | closeRoute (h : Hdr)
  -- Odometry, position, channels, holds
  | speedReference (h : Hdr) (v : Int) (flags : Nat)
  | place (h : Hdr) (rRef u : Nat)
  | unlock (h : Hdr)
  | centreAll (h : Hdr)
  | calibrate (h : Hdr) (channel : Nat)
  | hold (h : Hdr) (mode : Nat)
  | resume (h : Hdr)
  -- Steering authority
  | claim (h : Hdr)
  | release (h : Hdr)
  | offer (h : Hdr) (target : Nat)
  | accept (h : Hdr)
  -- Read requests
  | readStatus (h : Hdr)
  | readPosition (h : Hdr)
  | readChannel (h : Hdr) (channel : Nat)
  | readWindow (h : Hdr) (position : Nat)
  | readFaults (h : Hdr) (position : Nat)
  -- Configuration, modes, faults
  | setConfig (h : Hdr) (param channel : Nat) (value : Int)
  | setGain (h : Hdr) (gain : Nat)
  | sleep (h : Hdr)
  | restart (h : Hdr)
  | clearFaults (h : Hdr)
  -- The line
  | frameClosed (bits : List Bool)
  | frameAbort
  | lineFree
  | replyStart
  | endOfService
  | replyDrop
  -- Modes and resets
  | wake
  | resetAsserted
  | powerOnReset (straps : Nat) (pins : Quad SensorPins)
  | stabilisationTimerExpiry
  -- The Odometer
  | frameTimerExpiry
  | tachoFailed (t : Tacho)
  | tachoDisagree
  | tachoAgreementReached
  | standstillReached
  | tachoCount (t : Tacho) (e : TachoEdge)
  -- The position sample on its data path
  | sampleAtPfu
  | beaconMissed
  | sampleAtRw
  | sampleAtSs
  | carryLimitExceeded (k : Chan)
  -- The channels
  | conversionCompletion (k : Chan) (raw : Nat)
  | trackingError (k : Chan)
  | drivePeriodStart (k : Chan)
  | lockContactChange (k : Chan) (lke lkr : Bool)
  | centreSensorChange (k : Chan) (ctl ctr : Bool)
  | homingTimeout (k : Chan)
  | lockStuck (k : Chan)
  | lockFail (k : Chan)
  | settleFramesReached (k : Chan)
  | centringTimerExpiry (k : Chan)
  -- Beacons
  | beaconTelegram (id : Nat) (checkGood : Bool)
  | positionCorrection
  | beaconMark
  -- Authority timers, and the rest
  | presenceTimerExpiry (m : Master)
  | offerTimerExpiry
  | openingFlag
  | supplyLoss
  deriving DecidableEq, Repr

/-- The header and the request of a request row; none for an event row. -/
def Instr.asRequest : Instr → Option (Hdr × Request)
  | .openRoute h f => some (h, .openRoute f)
  | .appendSegment h f => some (h, .appendSegment f)
  | .closeRoute h => some (h, .closeRoute)
  | .speedReference h v f => some (h, .speedReference v f)
  | .place h r u => some (h, .place r u)
  | .unlock h => some (h, .unlock)
  | .centreAll h => some (h, .centreAll)
  | .calibrate h c => some (h, .calibrate c)
  | .hold h m => some (h, .hold m)
  | .resume h => some (h, .resume)
  | .claim h => some (h, .claim)
  | .release h => some (h, .release)
  | .offer h t => some (h, .offer t)
  | .accept h => some (h, .accept)
  | .readStatus h => some (h, .readStatus)
  | .readPosition h => some (h, .readPosition)
  | .readChannel h c => some (h, .readChannel c)
  | .readWindow h i => some (h, .readWindow i)
  | .readFaults h p => some (h, .readFaults p)
  | .setConfig h p c v => some (h, .setConfig p c v)
  | .setGain h g => some (h, .setGain g)
  | .sleep h => some (h, .sleep)
  | .restart h => some (h, .restart)
  | .clearFaults h => some (h, .clearFaults)
  | .frameClosed _ => none
  | .frameAbort => none
  | .lineFree => none
  | .replyStart => none
  | .endOfService => none
  | .replyDrop => none
  | .wake => none
  | .resetAsserted => none
  | .powerOnReset _ _ => none
  | .stabilisationTimerExpiry => none
  | .frameTimerExpiry => none
  | .tachoFailed _ => none
  | .tachoDisagree => none
  | .tachoAgreementReached => none
  | .standstillReached => none
  | .tachoCount _ _ => none
  | .sampleAtPfu => none
  | .beaconMissed => none
  | .sampleAtRw => none
  | .sampleAtSs => none
  | .carryLimitExceeded _ => none
  | .conversionCompletion _ _ => none
  | .trackingError _ => none
  | .drivePeriodStart _ => none
  | .lockContactChange _ _ _ => none
  | .centreSensorChange _ _ _ => none
  | .homingTimeout _ => none
  | .lockStuck _ => none
  | .lockFail _ => none
  | .settleFramesReached _ => none
  | .centringTimerExpiry _ => none
  | .beaconTelegram _ _ => none
  | .positionCorrection => none
  | .beaconMark => none
  | .presenceTimerExpiry _ => none
  | .offerTimerExpiry => none
  | .openingFlag => none
  | .supplyLoss => none

end Sys2Proof
end

