-- ==== Sys2Proof/Decode.lean ====
section
/-! DEFINITION. Commands from the opcode table's bits. No row of spec/opcode_table.json gives bits (its "fields" are
empty, no row has "fixed"), so no word spells a command and the decoder refuses every word. The bits the part itself reads,
the frames of the vehicle line (12, R208), are read in Machine/Operands.lean and Machine/Line.lean. -/

namespace Sys2Proof

/-- The command that a word spells by the table's bits: none, since no row gives bits. -/
def decodeTableWord (_nbits _w : Nat) : Option Instr := none

end Sys2Proof
end

