-- ==== Sys2Proof/Config.lean ====
section
/-! DEFINITION. The fixed numbers of the part, which no request can change, and the one free value. What SET_CONFIG can change
is state and stands in Machine/State.lean (`ConfigTable`). -/

namespace Sys2Proof.Config

/-- The line runs at 250 kbit/s: one bit time is 4 µs, so 250 bit times make one millisecond (chapter 8). -/
def bitTimesPerMs : Nat := 250

/-- The window holds at most 48 records (R6). -/
def windowCapacity : Nat := 48

/-- The fault list holds at most 16 records (R198). -/
def faultCapacity : Nat := 16

/-- The receive queue holds up to three frames (R170). -/
def queueDepth : Nat := 3

/-- A reply is dropped 2 ms, 500 bit times, after the request's closing flag (R173). -/
def replyDeadline : Nat := 500

/-- The bit times of unbroken ones after which the line is FREE (R167). -/
def freeOnes : Nat := 16

/-- The bit times of unbroken ones after which a reply may start (R173). -/
def replyOnes : Nat := 20

/-- FREE VALUE (log 28): whether the line carries a one in the bit time of this number. Outside a frame that a flag has opened
for certain no row says it: the line may rest at ones, or carry a frame that shares its opening flag with the frame before it
(R164, R167). -/
opaque lineCarriesOne : Nat → Bool

/-- The ones that the line has carried when a frame is aborted (R164). -/
def abortOnes : Nat := 7

/-- The upper end of the route position, in µm (R52, R61). -/
def routeEnd : Nat := 999999999999

/-- The largest route distance a field may carry, in mm (R16, R85). -/
def distanceMax : Nat := 999999999

/-- The front never lies beyond 1,000,000,000 mm (R6, R20). -/
def frontMax : Nat := 1000000000

/-- The uncertainty stops at 65,535,000 µm (R71). -/
def uncertaintyMax : Nat := 65535000

/-- One missed beacon adds 1,000,000 µm to U (R78). -/
def missPenalty : Nat := 1000000

/-- The miss count stops at 255 (R71). -/
def missMax : Nat := 255

/-- Two consecutive misses raise BEACON_MISSED (R78). -/
def missLimit : Nat := 2

/-- The capture half-width is U in mm plus 500 mm (R76). -/
def captureMargin : Nat := 500

/-- A repeat is judged within 5,000 mm of the reader (R82). -/
def repeatBound : Nat := 5000

/-- A failure streak of 25 makes a tacho FAILED (R62). -/
def failureLimit : Nat := 25

/-- The disagreement and agreement streaks stop at 50 (R64). -/
def streakLimit : Nat := 50

/-- A tacho count saturates at magnitude 127 (R55). -/
def countMax : Nat := 127

/-- The quiet time stops at 2,000 ms (R65). -/
def quietMax : Nat := 2000

/-- A reference speed saturates at magnitude 25,000 mm/s (R57). -/
def refSpeedMax : Int := 25000

/-- The carry counter stops at 65,535 (R35). -/
def carryMax : Nat := 65535

/-- Raw codes of 8 or less are out of range (R94). -/
def codeLow : Nat := 8

/-- Raw codes of 4,087 or more are out of range (R94). -/
def codeHigh : Nat := 4087

/-- The zero code after power-on reset (R90). -/
def zeroCodeReset : Nat := 2048

/-- Frame numbers and segment indices wrap at 65,536 (R8, R54). -/
def wrap16 : Nat := 65536

end Sys2Proof.Config
end

