-- ==== Sys2Proof/Machine/State.lean ====
section
/-! DEFINITION. The state of the WS40: every item the spec gives each of its nine blocks (00, "Block overview"), what is
on its way between them, and the queue of waiting commands. Plain data throughout. -/

namespace Sys2Proof.Machine

/-! ### Configuration Table (chapter 9) -/

/-- The horizon notice condition (R13). -/
inductive HorizonCond where
  | shortDistance | freeSpace
  deriving DecidableEq, Repr

/-- The fitting (R1, R182). -/
inductive Fitting where
  | twoBogies | oneBogie
  deriving DecidableEq, Repr

/-- The per-channel parameters of R182. -/
structure ChanConfig where
  enable : Bool
  offset : Int
  lever : Nat
  angleLimit : Nat
  slew : Nat
  tolerance : Nat
  persistLimit : Nat
  kp : Nat
  dmax : Nat
  homingDuty : Nat
  scale : Nat
  deriving DecidableEq, Repr

/-- The part parameters of R182, fitting among them, and the per-channel ones. -/
structure ConfigTable where
  frameInterval : Nat
  anticipation : Nat
  retention : Nat
  carryLimit : Nat
  horizonCond : HorizonCond
  horizonWarning : Nat
  freeThreshold : Nat
  fitting : Fitting
  lockTime : Nat
  settleFrames : Nat
  homingLimit : Nat
  lockWindow : Nat
  lambda : Duo Nat
  readerOffset : Int
  drift : Nat
  uMax : Nat
  uFix : Nat
  slideGain : Nat
  presenceTimeout : Nat
  offerTimeout : Nat
  standstillTime : Nat
  refHold : Nat
  stabTime : Nat
  chan : Quad ChanConfig
  deriving DecidableEq, Repr

/-- The default of every per-channel parameter but the offset (R182). -/
def ChanConfig.default (offset : Int) : ChanConfig :=
  { enable := true, offset := offset, lever := 900, angleLimit := 600, slew := 20, tolerance := 30, persistLimit := 25,
    kp := 32, dmax := 800, homingDuty := 250, scale := 40 }

/-- The defaults of R182. -/
def ConfigTable.default : ConfigTable :=
  { frameInterval := 10, anticipation := 4, retention := 15000, carryLimit := 100, horizonCond := .shortDistance,
    horizonWarning := 60000, freeThreshold := 8, fitting := .twoBogies, lockTime := 20, settleFrames := 5,
    homingLimit := 300, lockWindow := 50, lambda := ⟨5890, 5890⟩, readerOffset := 0, drift := 10, uMax := 3000,
    uFix := 100, slideGain := 60, presenceTimeout := 200, offerTimeout := 2000, standstillTime := 500, refHold := 50,
    stabTime := 640,
    chan := ⟨ChanConfig.default 6100, ChanConfig.default 4300, ChanConfig.default (-4300), ChanConfig.default (-6100)⟩ }

/-- A timer that runs: the time it was loaded with, in ms, and the time elapsed, in bit times. -/
structure Timer where
  loaded : Nat
  elapsed : Nat
  deriving DecidableEq, Repr

/-- The operating mode (R187). -/
inductive Mode where
  | waking | run | sleep
  deriving DecidableEq, Repr

/-- The pending mode change (R181). -/
inductive PendingMode where
  | none | restart | sleep
  deriving DecidableEq, Repr

/-- The lock time and the carry limit that the last sample at the Steering Schedule was taken with: a lock timer compares
with a new lock time from its next increment, a carry counter with a new limit at its next sample (R49, R122, R185). -/
structure SampleLimits where
  lockTime : Nat
  carryLimit : Nat
  deriving DecidableEq, Repr

/-- What the Configuration Table holds (R181); `used`, the model's own, holds what the last sample was taken with. -/
structure Ct where
  table : ConfigTable
  used : SampleLimits
  gain : Nat
  mode : Mode
  stab : Option Timer
  pendingMode : PendingMode
  deriving DecidableEq, Repr

/-! ### Authority Arbiter (chapter 7) -/

/-- The authority state (R144, R147). -/
inductive Authority where
  | vacant
  | held (m : Master)
  | offered (m n : Master)
  deriving DecidableEq, Repr

/-- A master's presence state (R144). -/
inductive PresenceState where
  | present | silent
  deriving DecidableEq, Repr

/-- Presence state and presence timer of one master (R144). -/
structure Presence where
  state : PresenceState
  timer : Option Timer
  deriving DecidableEq, Repr

/-- What the Authority Arbiter holds (R144). The brake controller has no presence. -/
structure Aa where
  auth : Authority
  offer : Option Timer
  p1 : Presence
  p2 : Presence
  p4 : Presence
  deriving DecidableEq, Repr

/-! ### Route Window (chapter 1) -/

/-- A beacon's status (R5). -/
inductive BeaconStatus where
  | pending | matched | missed
  deriving DecidableEq, Repr

/-- A beacon sub-record (R3, R5). -/
structure Beacon where
  id : Nat
  offset : Nat
  status : BeaconStatus
  deriving DecidableEq, Repr

/-- The kind of a segment with the curvature and cap fields that the kind has (R4). -/
inductive Geometry where
  | straight
  | arc (kStart : Int)
  | spiral (kStart kEnd : Int)
  | junction (kStart : Int) (cap : Nat)
  deriving DecidableEq, Repr

/-- A segment record (R3). -/
structure Segment where
  index : Nat
  geo : Geometry
  length : Nat
  beacon : Option Beacon
  deriving DecidableEq, Repr

/-- The leading end L (R6). -/
inductive VehicleEnd where
  | a | b
  deriving DecidableEq, Repr

/-- What the Route Window holds (R6). The count is the number of records. -/
structure Rw where
  isOpen : Bool
  lead : VehicleEnd
  rear : Nat
  front : Nat
  next : Nat
  segs : List Segment
  horizonLow : Bool
  deriving DecidableEq, Repr

/-! ### Odometer (chapter 3) -/

/-- A tacho's state (R52). -/
inductive TachoState where
  | working | failed
  deriving DecidableEq, Repr

/-- The odometry quality of a frame (R59). -/
inductive Quality where
  | agreed | single | reference | none
  deriving DecidableEq, Repr

/-- The standstill state (R65). -/
inductive Standstill where
  | standstill | moving
  deriving DecidableEq, Repr

/-- The running frame timer: the interval it was started with, in ms, and the time elapsed, in bit times (R52, R53). -/
structure FrameTimer where
  interval : Nat
  elapsed : Nat
  deriving DecidableEq, Repr

/-- The stored speed reference with its age in bit times (R52, R57, R58); `stale`, once an expiry has judged it so, stands
until a new reference is taken (R58). -/
structure SpeedRef where
  v : Int
  braking : Bool
  traction : Bool
  slide : Bool
  spin : Bool
  age : Nat
  stale : Bool
  deriving DecidableEq, Repr

/-- What the Odometer holds (R52); `disagreeTold`, the model's own, says that the disagreement now standing at 50 has been
reported, after which the Odometer is silent while it stands (R64, R200). -/
structure Odo where
  timer : Option FrameTimer
  frameNo : Nat
  acc : Duo Int
  tacho : Duo TachoState
  failure : Duo Nat
  disagree : Nat
  disagreeTold : Bool
  agree : Nat
  r : Nat
  d : Int
  quality : Quality
  lastInterval : Nat
  quiet : Nat
  standstill : Standstill
  ref : Option SpeedRef
  deriving DecidableEq, Repr

/-- A position sample (R67). -/
structure Sample where
  r : Nat
  d : Int
  quality : Quality
  standstill : Standstill
  slip : Bool
  deriving DecidableEq, Repr

/-! ### Position Fix Unit (chapter 4) -/

/-- The confidence state (R72). -/
inductive Confidence where
  | unplaced | placed | drifted
  deriving DecidableEq, Repr

/-- A mark: the record's index, and MATCHED or MISSED (R71). -/
structure Mark where
  index : Nat
  status : BeaconStatus
  deriving DecidableEq, Repr

/-- What the Position Fix Unit holds (R71); `missTold`, the model's own, says that the miss count now standing at 2 or more
has been reported, after which the unit is silent while it stands (R78). -/
structure Pfu where
  conf : Confidence
  u : Nat
  miss : Nat
  missTold : Bool
  lastCorrection : Option Int
  marks : List Mark
  deriving DecidableEq, Repr

/-! ### Steering Schedule (chapter 2) -/

/-- Where a channel's curvature came from (R28, R33). -/
inductive Source where
  | fromWindow | fromWindowShort | carried | decaying
  deriving DecidableEq, Repr

/-- The schedule's record of one channel (R28). -/
structure SsRec where
  source : Source
  carried : Int
  carry : Nat
  look : Option Int
  deriving DecidableEq, Repr

/-! ### Actuator Channels (chapter 5) -/

/-- The phases of HOMING (R98 to R101). -/
inductive HomingPhase where
  | assessing | seeking | engaging | capturing
  deriving DecidableEq, Repr

/-- The phases of RELEASING (R105). -/
inductive ReleasePhase where
  | awaiting | settling
  deriving DecidableEq, Repr

/-- The phases of CENTRING (R110, R111). -/
inductive CentringPhase where
  | stepping | engaging
  deriving DecidableEq, Repr

/-- The phases of FAULTED (R116). -/
inductive FaultPhase where
  | lockAwaited | lockEngaged | lockFailed
  deriving DecidableEq, Repr

/-- A channel's state with its phase (R90, R91). -/
inductive ChanState where
  | absent
  | unhomed
  | homing (p : HomingPhase)
  | locked
  | releasing (p : ReleasePhase)
  | tracking
  | holding
  | centring (p : CentringPhase)
  | faulted (p : FaultPhase)
  deriving DecidableEq, Repr

/-- The lock contact reading (R92, R211). -/
inductive Contact where
  | engaged | released | between
  deriving DecidableEq, Repr

/-- The centre sensor reading (R92, R211). -/
inductive Centre where
  | left | centre | right
  deriving DecidableEq, Repr

/-- A channel's A-D conversion: none, or in flight with its fresh-conversion request (R93). -/
inductive Conversion where
  | none
  | inFlight (freshRequest : Bool)
  deriving DecidableEq, Repr

/-- A drive stage: off, or energised with its applied duty and the waiting duty, if one waits (R95). -/
inductive Drive where
  | off
  | energised (applied : Int) (waiting : Option Int)
  deriving DecidableEq, Repr

/-- The record of one channel (R90). -/
structure Channel where
  state : ChanState
  theta : Int
  sched : Int
  m : Int
  z : Nat
  persist : Nat
  mark : Bool
  untrusted : Bool
  homingT : Option Nat
  lockT : Option Nat
  settle : Option Nat
  centringT : Option Nat
  conv : Conversion
  drive : Drive
  solenoid : Bool
  contact : Contact
  centre : Centre
  deriving DecidableEq, Repr

/-! ### Steering Supervisor (chapters 6 and 10) -/

/-- The hold mode (R126). -/
inductive HoldMode where
  | none | immediate | atCentre
  deriving DecidableEq, Repr

/-- The steering mode (R136). -/
inductive SteeringMode where
  | unsteered | partially | steering
  deriving DecidableEq, Repr

/-- The speed restriction level (R137). -/
inductive Level where
  | none | reduced | severe
  deriving DecidableEq, Repr

/-- The fault codes (R197). -/
inductive FaultCode where
  | homingTimeout | homingDisagree | lockStuck | lockFail | trackingError | sensorRange
  | tachoFailed | tachoDisagree | beaconMissed | positionConflict | horizonShortfall | holderSilent
  deriving DecidableEq, Repr

/-- The subject of a fault record (R198). -/
inductive Subject where
  | none
  | chan (k : Chan)
  | tacho (t : Tacho)
  deriving DecidableEq, Repr

/-- A fault record (R197). -/
structure FaultRecord where
  code : FaultCode
  subject : Subject
  distance : Option Nat
  frame : Nat
  active : Bool
  deriving DecidableEq, Repr

/-- The Supervisor's view of one channel, as last reported (R126). -/
structure ChanView where
  state : ChanState
  mark : Bool
  source : Source
  deriving DecidableEq, Repr

/-- One flag for each of the four masters (R196). -/
structure Notices where
  m1 : Bool
  m2 : Bool
  m3 : Bool
  m4 : Bool
  deriving DecidableEq, Repr

/-- What the Steering Supervisor holds (R126, R196). -/
structure Sv where
  hold : HoldMode
  steering : SteeringMode
  level : Level
  latch : Bool
  shortfall : Bool
  view : Quad ChanView
  routeOpen : Bool
  conf : Confidence
  faults : List FaultRecord
  listFull : Bool
  notice : Notices
  deriving DecidableEq, Repr

/-! ### On the way between blocks -/

/-- A lookup answer inside the window: the covering record's start distance, its length and its geometry (R12). -/
structure Covering where
  start : Nat
  length : Nat
  geo : Geometry
  deriving DecidableEq, Repr

/-- The two points of one channel with their lookup answers; none is *outside* (R10, R12). -/
structure Points where
  p : Int
  q : Int
  atP : Option Covering
  atQ : Option Covering
  deriving DecidableEq, Repr

/-- What the Route Window hands to the Steering Schedule for one channel: nothing for a channel that is not fitted, no
positions and both lookups *outside* while no route is open (R24), or the points formed. -/
inductive HandEntry where
  | notFitted
  | noRoute
  | formed (pts : Points)
  deriving DecidableEq, Repr

/-- A position sample handed on by the Route Window (R12, R30). -/
structure HandOver where
  sample : Sample
  entries : Quad HandEntry
  deriving DecidableEq, Repr

/-- A position correction on its way to the Odometer; void once a PLACE or OPEN_ROUTE has set r after its match (R68). -/
structure Correction where
  c : Int
  isVoid : Bool
  deriving DecidableEq, Repr

/-- A mark on its way to the Route Window; void once the window has been emptied after it was sent (R15). -/
structure MarkMsg where
  mark : Mark
  isVoid : Bool
  deriving DecidableEq, Repr

/-- What has left one block and not yet reached the next, oldest first. -/
structure Path where
  atPfu : List Sample
  atRw : List Sample
  atSs : List HandOver
  corrections : List Correction
  marks : List MarkMsg
  deriving DecidableEq, Repr

/-! ### Line Interface (chapter 8) -/

/-- The receiver (R164); `waiting` after a wake, until the line has carried 16 bit times of ones (R180); `stopped` in SLEEP and
while the part itself transmits. -/
inductive Receiver where
  | hunting | receiving | waiting | stopped
  deriving DecidableEq, Repr

/-- The line-busy state (R167). -/
inductive LineState where
  | busy | free
  deriving DecidableEq, Repr

/-- The result codes (R172). -/
inductive Result where
  | ok | notHolder | heldElsewhere | notPermitted | notStandstill | noOffer | noRoute | notPlaced
  | outOfOrder | windowFull | badValue | wrongState | isolated | notReady | unknownKind
  deriving DecidableEq, Repr

/-- An accepted frame: its header, its request, and the bit times since its closing flag (R170, R173). -/
structure QFrame where
  hdr : Hdr
  req : Request
  age : Nat
  deriving DecidableEq, Repr

/-- The status summary of a reply (R174). -/
structure Summary where
  mode : Mode
  auth : Authority
  routeOpen : Bool
  conf : Confidence
  steering : SteeringMode
  level : Level
  latch : Bool
  horizonLow : Bool
  notice : Bool
  listFull : Bool
  overrun : Bool
  deriving DecidableEq, Repr

/-- A reply: result code, status summary and the kind's items, as bytes (R172). -/
structure Reply where
  result : Result
  summary : Summary
  items : List Byte
  deriving DecidableEq, Repr

/-- The frame in service: its outcome as fixed at dispatch, and the reply once it has started on the line (R171, R172). -/
structure Service where
  hdr : Hdr
  req : Request
  age : Nat
  result : Result
  items : List Byte
  reply : Option Reply
  deriving DecidableEq, Repr

/-- What the Line Interface holds (chapter 8). `ones` is the time, in bit times, for which the line has carried unbroken
ones (R167); it stands at the 20 that R173 asks for, since no rule asks for more. `bitTime` is the MODEL's own: the number of
the next bit time, to which the free value `Config.lineCarriesOne` is applied (log 28). -/
structure Li where
  address : Nat
  receiver : Receiver
  inFrame : Bool
  line : LineState
  ones : Nat
  queue : List QFrame
  service : Option Service
  overrun : Bool
  bitTime : Nat
  deriving DecidableEq, Repr

/-! ### The whole part -/

/-- Whether the part is supplied and out of reset (R188). -/
inductive Power where
  | on | inReset | noSupply
  deriving DecidableEq, Repr

/-- The machine's state. -/
structure State where
  power : Power
  li : Li
  aa : Aa
  rw : Rw
  odo : Odo
  pfu : Pfu
  ss : Quad SsRec
  ac : Quad Channel
  sv : Sv
  ct : Ct
  path : Path
  pending : List Instr
  deriving DecidableEq, Repr

/-- The reasons a command could stop the machine. The manual gives every request and every event an effect in every
state, so there is none: no command of the part ends in a fault. -/
inductive Fault where
  deriving DecidableEq, Repr

/-- The reasons for having no meaning. -/
inductive Refusal where
  /-- Raised by `exec` alone, for a command that has no meaning yet; safe. No arm uses it. -/
  | notModelled (mnemonic : String)
  deriving DecidableEq, Repr

/-! ### Updates of one block -/

/-- The state with its `power` replaced. -/
def State.setPower (s : State) (v : Power) : State := { s with power := v }

/-- The state with its `li` replaced. -/
def State.setLi (s : State) (v : Li) : State := { s with li := v }

/-- The state with its `aa` replaced. -/
def State.setAa (s : State) (v : Aa) : State := { s with aa := v }

/-- The state with its `rw` replaced. -/
def State.setRw (s : State) (v : Rw) : State := { s with rw := v }

/-- The state with its `odo` replaced. -/
def State.setOdo (s : State) (v : Odo) : State := { s with odo := v }

/-- The state with its `pfu` replaced. -/
def State.setPfu (s : State) (v : Pfu) : State := { s with pfu := v }

/-- The state with its `ss` replaced. -/
def State.setSs (s : State) (v : Quad SsRec) : State := { s with ss := v }

/-- The state with its `ac` replaced. -/
def State.setAc (s : State) (v : Quad Channel) : State := { s with ac := v }

/-- The state with its `sv` replaced. -/
def State.setSv (s : State) (v : Sv) : State := { s with sv := v }

/-- The state with its `ct` replaced. -/
def State.setCt (s : State) (v : Ct) : State := { s with ct := v }

/-- The state with its `path` replaced. -/
def State.setPath (s : State) (v : Path) : State := { s with path := v }

/-- The state with its `pending` replaced. -/
def State.setPending (s : State) (v : List Instr) : State := { s with pending := v }

/-! ### The state after power-on reset -/

/-- The Odometer after power-on reset (R52, R70). -/
def Odo.reset : Odo :=
  { timer := some ⟨10, 0⟩, frameNo := 0, acc := ⟨0, 0⟩, tacho := ⟨.working, .working⟩, failure := ⟨0, 0⟩, disagree := 0,
    disagreeTold := false, agree := 0, r := 0, d := 0, quality := .none, lastInterval := 10, quiet := 2000,
    standstill := .standstill, ref := none }

/-- The Route Window after power-on reset; RESTART and entry to SLEEP bring it here too (R26, R27). -/
def Rw.reset : Rw :=
  { isOpen := false, lead := .a, rear := 0, front := 0, next := 0, segs := [], horizonLow := false }

/-- The Position Fix Unit after power-on reset (R71). -/
def Pfu.reset : Pfu := { conf := .unplaced, u := 0, miss := 0, missTold := false, lastCorrection := none, marks := [] }

/-- A schedule record after power-on reset, RESTART, wake, and when its channel becomes fitted (R28, R29). -/
def SsRec.reset : SsRec := { source := .carried, carried := 0, carry := 0, look := none }

/-- A presence after power-on reset, RESTART and entry to SLEEP (R163). -/
def Presence.reset : Presence := ⟨.silent, none⟩

/-- The Authority Arbiter after power-on reset, RESTART and entry to SLEEP (R144, R163). -/
def Aa.reset : Aa :=
  { auth := .vacant, offer := none, p1 := Presence.reset, p2 := Presence.reset, p4 := Presence.reset }

/-- A channel after power-on reset, with the sensor readings as read at reset (R90). Every channel is fitted by the
defaults of R182, so none is ABSENT. -/
def Channel.reset (contact : Contact) (centreSensor : Centre) : Channel :=
  { state := .unhomed, theta := 0, sched := 0, m := 0, z := Config.zeroCodeReset, persist := 0, mark := false,
    untrusted := false, homingT := none, lockT := none, settle := none, centringT := none, conv := .none, drive := .off,
    solenoid := false, contact := contact, centre := centreSensor }

/-- The Supervisor's view of a channel after power-on reset (R126). -/
def ChanView.reset : ChanView := ⟨.unhomed, false, .carried⟩

/-- The Steering Supervisor after power-on reset (R126, R196). -/
def Sv.reset : Sv :=
  { hold := .none, steering := .unsteered, level := .reduced, latch := false, shortfall := false,
    view := ⟨ChanView.reset, ChanView.reset, ChanView.reset, ChanView.reset⟩, routeOpen := false, conf := .unplaced,
    faults := [], listFull := false, notice := ⟨false, false, false, false⟩ }

/-- The Configuration Table after power-on reset (R181, R182, R188). -/
def Ct.reset : Ct :=
  { table := ConfigTable.default, used := ⟨20, 100⟩, gain := 100, mode := .waking, stab := some ⟨640, 0⟩, pendingMode := .none }

/-- The Line Interface after power-on reset, with the straps as read (R168, R180). -/
def Li.reset (straps : Nat) : Li :=
  { address := 16 + straps % 8, receiver := .hunting, inFrame := false, line := .busy, ones := 0, queue := [], service := none,
    overrun := false, bitTime := 0 }

/-- Nothing on its way. -/
def Path.empty : Path := { atPfu := [], atRw := [], atSs := [], corrections := [], marks := [] }

/-- The part right after a power-on reset that read these straps and these sensor readings (R188). -/
def State.afterReset (straps : Nat) (readings : Quad (Contact × Centre)) : State :=
  { power := .on, li := Li.reset straps, aa := Aa.reset, rw := Rw.reset, odo := Odo.reset, pfu := Pfu.reset,
    ss := ⟨SsRec.reset, SsRec.reset, SsRec.reset, SsRec.reset⟩,
    ac := ⟨Channel.reset readings.c1.1 readings.c1.2, Channel.reset readings.c2.1 readings.c2.2,
      Channel.reset readings.c3.1 readings.c3.2, Channel.reset readings.c4.1 readings.c4.2⟩,
    sv := Sv.reset, ct := Ct.reset, path := Path.empty, pending := [] }

/-- The machine right after power-on reset. DESIGN CHOICE (log 11): the straps read 0, every lock contact ENGAGED and
every centre sensor AT_CENTRE, as in the example of section 11.2; the spec gives these inputs no value. -/
def State.reset : State :=
  State.afterReset 0 ⟨(.engaged, .centre), (.engaged, .centre), (.engaged, .centre), (.engaged, .centre)⟩

end Sys2Proof.Machine
end

