-- ==== Sys2Proof/Machine/Ops.lean ====
section
/-! DEFINITION. Shared operations: the arithmetic of R2, the four-fold groups, who holds authority, which channels are
fitted, and the taking of fault reports (chapter 10). -/

namespace Sys2Proof

/-! ### Groups of four and two -/

/-- The value of one channel. -/
def Quad.get {α : Type} (q : Quad α) : Chan → α
  | .c1 => q.c1
  | .c2 => q.c2
  | .c3 => q.c3
  | .c4 => q.c4

/-- The group with one channel's value replaced. -/
def Quad.set {α : Type} (q : Quad α) (k : Chan) (v : α) : Quad α :=
  match k with
  | .c1 => { q with c1 := v }
  | .c2 => { q with c2 := v }
  | .c3 => { q with c3 := v }
  | .c4 => { q with c4 := v }

/-- The group built channel by channel. -/
def Quad.build {α : Type} (f : Chan → α) : Quad α := ⟨f .c1, f .c2, f .c3, f .c4⟩

/-- The value of one tacho. -/
def Duo.get {α : Type} (q : Duo α) : Tacho → α
  | .t1 => q.t1
  | .t2 => q.t2

/-- The pair with one tacho's value replaced. -/
def Duo.set {α : Type} (q : Duo α) (t : Tacho) (v : α) : Duo α :=
  match t with
  | .t1 => { q with t1 := v }
  | .t2 => { q with t2 := v }

/-- The four channels in order. -/
def Chan.all : List Chan := [.c1, .c2, .c3, .c4]

/-- The other channel of the same bogie (R1). -/
def Chan.partner : Chan → Chan
  | .c1 => .c2
  | .c2 => .c1
  | .c3 => .c4
  | .c4 => .c3

/-- The channel carries an A-side wheelset (R1). -/
def Chan.isASide : Chan → Bool
  | .c1 => true
  | .c2 => false
  | .c3 => true
  | .c4 => false

/-- The channel belongs to bogie 1, the bogie nearer end A (R1). -/
def Chan.onBogie1 : Chan → Bool
  | .c1 => true
  | .c2 => true
  | .c3 => false
  | .c4 => false

namespace Machine

/-! ### Arithmetic (R2) -/

/-- The quotient truncated toward zero. -/
def trunc (a b : Int) : Int := Int.tdiv a b

/-- The quotient rounded to the nearest integer, halves away from zero. -/
def roundHalfAway (a : Int) (b : Nat) : Int :=
  if 0 ≤ a then ((2 * a.natAbs + b) / (2 * b) : Nat) else -(((2 * a.natAbs + b) / (2 * b) : Nat) : Int)

/-- x limited to the interval from lo to hi. -/
def clamp (x lo hi : Int) : Int := max lo (min x hi)

/-- A number held to the interval 0 to `hi`. -/
def holdTo (hi : Nat) (x : Int) : Nat := min x.toNat hi

/-- A value moved toward 0 by at most the step (R97). -/
def stepToZero (step : Nat) (x : Int) : Int :=
  if x.natAbs ≤ step then 0 else if 0 < x then x - step else x + step

/-- Whole mm of a µm value, the fraction dropped (R52, R71). -/
def wholeMm (um : Nat) : Nat := um / 1000

/-- Milliseconds as bit times. -/
def msToBitTimes (ms : Nat) : Nat := ms * Config.bitTimesPerMs

/-! ### Authority (R147) -/

/-- The master holds steering authority: the state is HELD(m), or OFFERED(m→n). -/
def Authority.heldBy (a : Authority) (m : Master) : Bool :=
  match a with
  | .vacant => false
  | .held h => h == m
  | .offered h _ => h == m

/-- The master holds steering authority, as the Authority Arbiter answers at this moment (R147). -/
def holds (s : State) (m : Master) : Bool := s.aa.auth.heldBy m

/-- The Odometer's standstill state is STANDSTILL (R65, R66). -/
def atStandstill (s : State) : Bool := s.odo.standstill == .standstill

/-! ### Fitting (R1) -/

/-- The channel is fitted: the fitting includes its bogie, and its own enable is on. -/
def ConfigTable.fitted (t : ConfigTable) (k : Chan) : Bool :=
  (k.onBogie1 || t.fitting == .twoBogies) && (t.chan.get k).enable

/-- The channel is fitted by the configuration as it stands. -/
def fitted (s : State) (k : Chan) : Bool := s.ct.table.fitted k

/-! ### The fault list (R196 to R202) -/

/-- The record concerns this code and subject (R198). -/
def FaultRecord.concerns (f : FaultRecord) (c : FaultCode) (sub : Subject) : Bool := f.code == c && f.subject == sub

/-- Every master's notice flag set (R202). -/
def Notices.allSet : Notices := ⟨true, true, true, true⟩

/-- A master's notice flag. -/
def Notices.get (n : Notices) : Master → Bool
  | .cabA => n.m1
  | .cabB => n.m2
  | .brake => n.m3
  | .maint => n.m4

/-- The flags with one master's cleared (R179, R202). -/
def Notices.clear (n : Notices) : Master → Notices
  | .cabA => { n with m1 := false }
  | .cabB => { n with m2 := false }
  | .brake => { n with m3 := false }
  | .maint => { n with m4 := false }

/-- A record stamped anew and active (R197, R199). -/
def FaultRecord.stamp (f : FaultRecord) (distance : Option Nat) (frame : Nat) : FaultRecord :=
  { f with distance := distance, frame := frame, active := true }

/-- The taking of a fault report by the five cases of R199, with the stamping of R197. -/
def Sv.takeFault (sv : Sv) (c : FaultCode) (sub : Subject) (distance : Option Nat) (frame : Nat) : Sv :=
  let restamped := sv.faults.map fun f => if f.concerns c sub then f.stamp distance frame else f
  let new : FaultRecord := { code := c, subject := sub, distance := distance, frame := frame, active := true }
  if sv.faults.any fun f => f.concerns c sub && !f.active then
    { sv with faults := restamped, notice := Notices.allSet }
  else if sv.faults.any fun f => f.concerns c sub then
    { sv with faults := restamped }
  else if sv.faults.length < Config.faultCapacity then
    { sv with faults := sv.faults ++ [new], notice := Notices.allSet }
  else if sv.faults.any fun f => !f.active then
    { sv with faults := (sv.faults.eraseP fun f => !f.active) ++ [new], listFull := false, notice := Notices.allSet }
  else
    { sv with listFull := true, notice := Notices.allSet }

/-- The route distance of a stamping: r in whole mm, or absent while the confidence is UNPLACED (R197). -/
def stampDistance (s : State) : Option Nat :=
  if s.pfu.conf == .unplaced then none else some (wholeMm s.odo.r)

/-- A fault report to the Supervisor (R199), stamped with the Odometer's r and frame number (R197). -/
def raiseFault (c : FaultCode) (sub : Subject) (s : State) : State :=
  s.setSv (s.sv.takeFault c sub (stampDistance s) s.odo.frameNo)

/-- The taking of an inactive report (R201). -/
def Sv.takeInactive (sv : Sv) (c : FaultCode) (sub : Subject) : Sv :=
  { sv with faults := sv.faults.map fun f => if f.concerns c sub then { f with active := false } else f }

/-- A report to the Supervisor that a record has become inactive (R201). -/
def reportInactive (c : FaultCode) (sub : Subject) (s : State) : State := s.setSv (s.sv.takeInactive c sub)

/-- The removal of every inactive record (R200, R204 step 3): the list-full flag becomes clear if one leaves. -/
def Sv.removeInactive (sv : Sv) : Sv :=
  { sv with
    faults := sv.faults.filter (·.active)
    listFull := if sv.faults.any (fun f => !f.active) then false else sv.listFull }

/-- The six codes a channel raises (R119). -/
def channelCodes : List FaultCode :=
  [.homingTimeout, .homingDisagree, .lockStuck, .lockFail, .trackingError, .sensorRange]

/-- A channel that leaves FAULTED reports every fault record of its own inactive (R120). -/
def reportChannelInactive (k : Chan) (s : State) : State :=
  channelCodes.foldl (fun s c => reportInactive c (.chan k) s) s

/-! ### Power -/

/-- What a command does to a part that is supplied and out of reset; a part held in reset, or without supply, takes
nothing (R188). -/
def whenOn (s : State) (f : State → State) : State :=
  match s.power with
  | .on => f s
  | .inReset => s
  | .noSupply => s

end Machine

end Sys2Proof
end

