-- ==== Sys2Proof/Machine/Operands.lean ====
section
/-! DEFINITION. The operands of requests and replies: byte layouts (chapter 12), codes for names, field ranges (R16, R20,
R85, R182, R209), and the segment record a payload spells. -/

namespace Sys2Proof

/-! ### Numbers in bytes (R208) -/

/-- The big-endian bytes of an unsigned field of `n` bytes. -/
def beBytes : Nat → Nat → List Byte
  | 0, _ => []
  | n + 1, v => BitVec.ofNat 8 (v / 256 ^ n) :: beBytes n v

/-- The big-endian bytes of a signed (two's complement) field of `n` bytes. -/
def beSigned (n : Nat) (v : Int) : List Byte := beBytes n (v % ((256 ^ n : Nat) : Int)).toNat

/-- The number a list of bytes spells, most significant byte first. -/
def beNat : List Byte → Nat
  | [] => 0
  | b :: bs => b.toNat * 256 ^ bs.length + beNat bs

/-- The signed number a list of bytes spells in two's complement. -/
def beInt (bs : List Byte) : Int :=
  if beNat bs < 256 ^ bs.length / 2 then (beNat bs : Int) else (beNat bs : Int) - ((256 ^ bs.length : Nat) : Int)

/-- The `len` bytes at an offset. -/
def slice (bs : List Byte) (off len : Nat) : List Byte := (bs.drop off).take len

/-! ### Kinds (sections 12.2, 12.3) -/

/-- The kind code (section 12.2). -/
def Kind.code : Kind → Nat
  | .claim => 1
  | .release => 2
  | .offer => 3
  | .accept => 4
  | .openRoute => 8
  | .appendSegment => 9
  | .closeRoute => 10
  | .place => 12
  | .speedReference => 13
  | .unlock => 16
  | .calibrate => 17
  | .centreAll => 18
  | .hold => 20
  | .resume => 21
  | .clearFaults => 22
  | .setConfig => 24
  | .setGain => 25
  | .sleep => 26
  | .restart => 27
  | .readStatus => 32
  | .readPosition => 33
  | .readChannel => 34
  | .readWindow => 35
  | .readFaults => 36

/-- Every kind of section 12.2. -/
def Kind.all : List Kind :=
  [.claim, .release, .offer, .accept, .openRoute, .appendSegment, .closeRoute, .place, .speedReference, .unlock,
   .calibrate, .centreAll, .hold, .resume, .clearFaults, .setConfig, .setGain, .sleep, .restart, .readStatus,
   .readPosition, .readChannel, .readWindow, .readFaults]

/-- The kind a kind byte names, if it names one (R208). -/
def kindOf (code : Nat) : Option Kind := Kind.all.find? fun k => k.code == code

/-- The request length of the kind, in bytes (section 12.3). -/
def Kind.requestLength : Kind → Nat
  | .claim => 0
  | .release => 0
  | .offer => 1
  | .accept => 0
  | .openRoute => 13
  | .appendSegment => 24
  | .closeRoute => 0
  | .place => 6
  | .speedReference => 3
  | .unlock => 0
  | .calibrate => 1
  | .centreAll => 0
  | .hold => 1
  | .resume => 0
  | .clearFaults => 0
  | .setConfig => 6
  | .setGain => 1
  | .sleep => 0
  | .restart => 0
  | .readStatus => 0
  | .readPosition => 0
  | .readChannel => 1
  | .readWindow => 1
  | .readFaults => 1

/-- The kind of a read request (R171). -/
def Kind.isRead : Kind → Bool
  | .readStatus => true
  | .readPosition => true
  | .readChannel => true
  | .readWindow => true
  | .readFaults => true
  | _ => false

/-- The kind of a request; none for a kind byte that names no kind. -/
def Request.kind : Request → Option Kind
  | .claim => some .claim
  | .release => some .release
  | .offer _ => some .offer
  | .accept => some .accept
  | .openRoute _ => some .openRoute
  | .appendSegment _ => some .appendSegment
  | .closeRoute => some .closeRoute
  | .place _ _ => some .place
  | .speedReference _ _ => some .speedReference
  | .unlock => some .unlock
  | .calibrate _ => some .calibrate
  | .centreAll => some .centreAll
  | .hold _ => some .hold
  | .resume => some .resume
  | .clearFaults => some .clearFaults
  | .setConfig _ _ _ => some .setConfig
  | .setGain _ => some .setGain
  | .sleep => some .sleep
  | .restart => some .restart
  | .readStatus => some .readStatus
  | .readPosition => some .readPosition
  | .readChannel _ => some .readChannel
  | .readWindow _ => some .readWindow
  | .readFaults _ => some .readFaults
  | .badLength k => some k
  | .unknownKind _ => none

/-- The kind byte a request bears, which its reply bears too (R172). -/
def Request.kindCode : Request → Nat
  | .unknownKind code => code
  | r => (r.kind.map Kind.code).getD 0

/-- The request's fields, read from a payload of its kind's length (section 12.3). -/
def Kind.fields (k : Kind) (p : List Byte) : Request :=
  match k with
  | .claim => .claim
  | .release => .release
  | .offer => .offer (beNat (slice p 0 1))
  | .accept => .accept
  | .openRoute => .openRoute
      { lead := beNat (slice p 0 1), r0 := beNat (slice p 1 4), firstIndex := beNat (slice p 5 2),
        rRef := beNat (slice p 7 4), u0 := beNat (slice p 11 2) }
  | .appendSegment => .appendSegment
      { index := beNat (slice p 0 2), kind := beNat (slice p 2 1), marker := beNat (slice p 3 1),
        length := beNat (slice p 4 4), kStart := beInt (slice p 8 4), kEnd := beInt (slice p 12 4),
        cap := beNat (slice p 16 2), beaconId := beNat (slice p 18 2), beaconOffset := beNat (slice p 20 4) }
  | .closeRoute => .closeRoute
  | .place => .place (beNat (slice p 0 4)) (beNat (slice p 4 2))
  | .speedReference => .speedReference (beInt (slice p 0 2)) (beNat (slice p 2 1))
  | .unlock => .unlock
  | .calibrate => .calibrate (beNat (slice p 0 1))
  | .centreAll => .centreAll
  | .hold => .hold (beNat (slice p 0 1))
  | .resume => .resume
  | .clearFaults => .clearFaults
  | .setConfig => .setConfig (beNat (slice p 0 1)) (beNat (slice p 1 1)) (beInt (slice p 2 4))
  | .setGain => .setGain (beNat (slice p 0 1))
  | .sleep => .sleep
  | .restart => .restart
  | .readStatus => .readStatus
  | .readPosition => .readPosition
  | .readChannel => .readChannel (beNat (slice p 0 1))
  | .readWindow => .readWindow (beNat (slice p 0 1))
  | .readFaults => .readFaults (beNat (slice p 0 1))

/-- The request that a kind byte and a payload spell (R208). -/
def requestOf (code : Nat) (p : List Byte) : Request :=
  match kindOf code with
  | none => .unknownKind code
  | some k => if p.length = k.requestLength then k.fields p else .badLength k

/-- The payload that carries a request's fields (section 12.3); empty where there are none. -/
def Request.payload : Request → List Byte
  | .claim => []
  | .release => []
  | .offer t => beBytes 1 t
  | .accept => []
  | .openRoute f => beBytes 1 f.lead ++ beBytes 4 f.r0 ++ beBytes 2 f.firstIndex ++ beBytes 4 f.rRef ++ beBytes 2 f.u0
  | .appendSegment f =>
    beBytes 2 f.index ++ beBytes 1 f.kind ++ beBytes 1 f.marker ++ beBytes 4 f.length ++ beSigned 4 f.kStart ++
      beSigned 4 f.kEnd ++ beBytes 2 f.cap ++ beBytes 2 f.beaconId ++ beBytes 4 f.beaconOffset
  | .closeRoute => []
  | .place r u => beBytes 4 r ++ beBytes 2 u
  | .speedReference v flags => beSigned 2 v ++ beBytes 1 flags
  | .unlock => []
  | .calibrate c => beBytes 1 c
  | .centreAll => []
  | .hold m => beBytes 1 m
  | .resume => []
  | .clearFaults => []
  | .setConfig p c v => beBytes 1 p ++ beBytes 1 c ++ beSigned 4 v
  | .setGain g => beBytes 1 g
  | .sleep => []
  | .restart => []
  | .readStatus => []
  | .readPosition => []
  | .readChannel c => beBytes 1 c
  | .readWindow i => beBytes 1 i
  | .readFaults p => beBytes 1 p
  | .badLength _ => []
  | .unknownKind _ => []

/-! ### Addresses (R143, R168) -/

/-- A master's line address. -/
def Master.address : Master → Nat
  | .cabA => 1
  | .cabB => 2
  | .brake => 3
  | .maint => 4

/-- The master of a line address. -/
def masterOf : Nat → Option Master
  | 1 => some .cabA
  | 2 => some .cabB
  | 3 => some .brake
  | 4 => some .maint
  | _ => none

/-- The master that may be offered authority under this address (R143, R151). -/
def offerTarget : Nat → Option Master
  | 1 => some .cabA
  | 2 => some .cabB
  | 4 => some .maint
  | _ => none

/-- The broadcast address (R168). -/
def broadcastAddress : Nat := 31

namespace Machine

/-! ### Codes for names (section 12.6) -/

/-- The result code's number. -/
def Result.code : Result → Nat
  | .ok => 0
  | .notHolder => 1
  | .heldElsewhere => 2
  | .notPermitted => 3
  | .notStandstill => 4
  | .noOffer => 5
  | .noRoute => 6
  | .notPlaced => 7
  | .outOfOrder => 8
  | .windowFull => 9
  | .badValue => 10
  | .wrongState => 11
  | .isolated => 12
  | .notReady => 13
  | .unknownKind => 14

/-- The fault code's number. -/
def FaultCode.code : FaultCode → Nat
  | .homingTimeout => 1
  | .homingDisagree => 2
  | .lockStuck => 3
  | .lockFail => 4
  | .trackingError => 5
  | .sensorRange => 6
  | .tachoFailed => 7
  | .tachoDisagree => 8
  | .beaconMissed => 9
  | .positionConflict => 10
  | .horizonShortfall => 11
  | .holderSilent => 12

/-- The channel number, 1..4. -/
def chanNumber : Chan → Nat
  | .c1 => 1
  | .c2 => 2
  | .c3 => 3
  | .c4 => 4

/-- The channel of a channel number, if there is one. -/
def chanOf : Nat → Option Chan
  | 1 => some .c1
  | 2 => some .c2
  | 3 => some .c3
  | 4 => some .c4
  | _ => none

/-- The subject byte of a fault record (section 12.4). -/
def Subject.code : Subject → Nat
  | .none => 0
  | .chan k => chanNumber k
  | .tacho .t1 => 1
  | .tacho .t2 => 2

/-- The channel state's number. -/
def ChanState.code : ChanState → Nat
  | .absent => 0
  | .unhomed => 1
  | .homing _ => 2
  | .locked => 3
  | .releasing _ => 4
  | .tracking => 5
  | .holding => 6
  | .centring _ => 7
  | .faulted _ => 8

/-- The phase's number; 0 in a state without phases. -/
def ChanState.phaseCode : ChanState → Nat
  | .absent => 0
  | .unhomed => 0
  | .homing .assessing => 1
  | .homing .seeking => 2
  | .homing .engaging => 3
  | .homing .capturing => 4
  | .locked => 0
  | .releasing .awaiting => 1
  | .releasing .settling => 2
  | .tracking => 0
  | .holding => 0
  | .centring .stepping => 1
  | .centring .engaging => 2
  | .faulted .lockAwaited => 1
  | .faulted .lockEngaged => 2
  | .faulted .lockFailed => 3

/-- The lock contact's number. -/
def Contact.code : Contact → Nat
  | .engaged => 1
  | .released => 2
  | .between => 3

/-- The centre sensor's number. -/
def Centre.code : Centre → Nat
  | .left => 1
  | .centre => 2
  | .right => 3

/-- The curvature source's number. -/
def Source.code : Source → Nat
  | .fromWindow => 1
  | .fromWindowShort => 2
  | .carried => 3
  | .decaying => 4

/-- The quality's number. -/
def Quality.code : Quality → Nat
  | .agreed => 1
  | .single => 2
  | .reference => 3
  | .none => 4

/-- The confidence's number. -/
def Confidence.code : Confidence → Nat
  | .unplaced => 0
  | .placed => 1
  | .drifted => 2

/-- The standstill state's number. -/
def Standstill.code : Standstill → Nat
  | .standstill => 1
  | .moving => 2

/-- The hold mode's number. -/
def HoldMode.code : HoldMode → Nat
  | .none => 0
  | .immediate => 1
  | .atCentre => 2

/-- The steering mode's number (section 12.5). -/
def SteeringMode.code : SteeringMode → Nat
  | .unsteered => 0
  | .partially => 1
  | .steering => 2

/-- The speed restriction level's number (section 12.5). -/
def Level.code : Level → Nat
  | .none => 0
  | .reduced => 1
  | .severe => 2

/-- The leading end a code names. -/
def leadOf : Nat → Option VehicleEnd
  | 1 => some .a
  | 2 => some .b
  | _ => none

/-- The hold mode a HOLD names: IMMEDIATE or AT_CENTRE (R131). -/
def holdOf : Nat → Option HoldMode
  | 1 => some .immediate
  | 2 => some .atCentre
  | _ => none

/-- A flag as a bit. -/
def bit (b : Bool) (weight : Nat) : Nat := if b then weight else 0

/-! ### The status summary in bytes (section 12.5) -/

/-- The three bytes of the status summary. -/
def Summary.bytes (m : Summary) : List Byte :=
  let auth : Nat × Nat × Nat :=
    match m.auth with
    | .vacant => (0, 0, 0)
    | .held h => (1, h.address, 0)
    | .offered h n => (2, h.address, n.address)
  [BitVec.ofNat 8 (auth.1 * 64 + auth.2.1 * 8 + auth.2.2),
   BitVec.ofNat 8 (bit (m.mode == .run) 128 + bit m.routeOpen 64 + m.conf.code * 16 + m.steering.code * 4 + m.level.code),
   BitVec.ofNat 8 (bit m.latch 128 + bit m.horizonLow 64 + bit m.notice 32 + bit m.listFull 16 + bit m.overrun 8)]

/-- A reply's payload: result code, status summary, items (R208). -/
def Reply.payload (r : Reply) : List Byte := BitVec.ofNat 8 r.result.code :: (r.summary.bytes ++ r.items)

/-! ### Segment records (R4, R20, section 12.4) -/

/-- The presence bits 0 to 2 that a kind requires (R4). -/
def Geometry.marker : Geometry → Nat
  | .straight => 0
  | .arc _ => 1
  | .spiral _ _ => 3
  | .junction _ _ => 5

/-- A curvature lies in −125,000..+125,000 cu (R3). -/
def curvatureOk (κ : Int) : Bool := -125000 ≤ κ && κ ≤ 125000

/-- The geometry a segment's fields spell, with its presence bits as the kind requires and each value in its range; the
bytes of a field whose presence bit is clear are not read (R20, R209). -/
def segGeometry (f : SegmentFields) : Option Geometry :=
  let present := f.marker % 8
  if f.kind = 1 ∧ present = 0 then some .straight
  else if f.kind = 2 ∧ present = 1 ∧ curvatureOk f.kStart then some (.arc f.kStart)
  else if f.kind = 3 ∧ present = 3 ∧ curvatureOk f.kStart ∧ curvatureOk f.kEnd then some (.spiral f.kStart f.kEnd)
  else if f.kind = 4 ∧ present = 5 ∧ curvatureOk f.kStart ∧ f.cap ≤ 800 then some (.junction f.kStart f.cap)
  else none

/-- The beacon bit of the presence marker (section 12.4). -/
def segHasBeacon (f : SegmentFields) : Bool := f.marker / 8 % 2 == 1

/-- The beacon a segment's fields spell is valid, if one is present (R20). -/
def segBeaconOk (f : SegmentFields) : Bool :=
  !segHasBeacon f || (1 ≤ f.beaconId && f.beaconId ≤ 65535 && f.beaconOffset < f.length)

/-- The record a segment's fields spell, its beacon PENDING, if they are valid by R20 in a window with this front. -/
def segmentOf (f : SegmentFields) (front : Nat) : Option Segment :=
  if 100 ≤ f.length ∧ f.length ≤ 500000 ∧ f.marker < 16 ∧ segBeaconOk f ∧ front + f.length ≤ Config.frontMax then
    (segGeometry f).map fun g =>
      { index := f.index, geo := g, length := f.length,
        beacon := if segHasBeacon f then some ⟨f.beaconId, f.beaconOffset, .pending⟩ else none }
  else none

/-- The beacon status in bits 4 and 5 (section 12.4). -/
def BeaconStatus.code : BeaconStatus → Nat
  | .pending => 1
  | .matched => 2
  | .missed => 3

/-- The kind code, κ_start, κ_end and cap of a record, 0 where absent (section 12.4, R210). -/
def Geometry.fields : Geometry → Nat × Int × Int × Nat
  | .straight => (1, 0, 0, 0)
  | .arc κ => (2, κ, 0, 0)
  | .spiral κ κ' => (3, κ, κ', 0)
  | .junction κ cap => (4, κ, 0, cap)

/-- The 28 bytes of a record read out, with its start distance (R178, section 12.4). -/
def Segment.bytes (g : Segment) (start : Nat) : List Byte :=
  let f := g.geo.fields
  let b : Nat × Nat × Nat :=
    match g.beacon with
    | none => (0, 0, 0)
    | some b => (8 + b.status.code * 16, b.id, b.offset)
  beBytes 2 g.index ++ beBytes 1 f.1 ++ beBytes 1 (g.geo.marker + b.1) ++ beBytes 4 g.length ++ beSigned 4 f.2.1 ++
    beSigned 4 f.2.2.1 ++ beBytes 2 f.2.2.2 ++ beBytes 2 b.2.1 ++ beBytes 4 b.2.2 ++ beBytes 4 start

/-- The nine bytes of a fault record (section 12.4). -/
def FaultRecord.bytes (f : FaultRecord) : List Byte :=
  beBytes 1 f.code.code ++ beBytes 1 f.subject.code ++ beBytes 1 (bit f.active 1 + bit f.distance.isSome 2) ++
    beBytes 4 (f.distance.getD 0) ++ beBytes 2 f.frame

/-! ### Configuration parameters (R182, section 12.6) -/

/-- The part parameters, fitting among them. -/
inductive PartParam where
  | frameInterval | anticipation | retention | carryLimit | horizonCond | horizonWarning | freeThreshold | fitting
  | lockTime | settleFrames | homingLimit | lockWindow | lambda1 | lambda2 | readerOffset | drift | uMax | uFix
  | slideGain | presenceTimeout | offerTimeout | standstillTime | refHold | stabTime
  deriving DecidableEq, Repr

/-- The per-channel parameters, enable among them. -/
inductive ChanParam where
  | enable | offset | lever | angleLimit | slew | tolerance | persistLimit | kp | dmax | homingDuty | scale
  deriving DecidableEq, Repr

/-- One value of the table: a part parameter, or a channel's parameter. -/
inductive ParamRef where
  | part (p : PartParam)
  | chan (p : ChanParam) (k : Chan)
  deriving DecidableEq, Repr

/-- The part parameter of a code. -/
def partParamOf : Nat → Option PartParam
  | 1 => some .frameInterval
  | 2 => some .anticipation
  | 3 => some .retention
  | 4 => some .carryLimit
  | 5 => some .horizonCond
  | 6 => some .horizonWarning
  | 7 => some .freeThreshold
  | 8 => some .fitting
  | 9 => some .lockTime
  | 10 => some .settleFrames
  | 11 => some .homingLimit
  | 12 => some .lockWindow
  | 13 => some .lambda1
  | 14 => some .lambda2
  | 15 => some .readerOffset
  | 16 => some .drift
  | 17 => some .uMax
  | 18 => some .uFix
  | 19 => some .slideGain
  | 20 => some .presenceTimeout
  | 21 => some .offerTimeout
  | 22 => some .standstillTime
  | 23 => some .refHold
  | 24 => some .stabTime
  | _ => none

/-- The per-channel parameter of a code. -/
def chanParamOf : Nat → Option ChanParam
  | 32 => some .enable
  | 33 => some .offset
  | 34 => some .lever
  | 35 => some .angleLimit
  | 36 => some .slew
  | 37 => some .tolerance
  | 38 => some .persistLimit
  | 39 => some .kp
  | 40 => some .dmax
  | 41 => some .homingDuty
  | 42 => some .scale
  | _ => none

/-- The value that a parameter code and a channel number name: channel 0 for a part parameter, 1..4 for a per-channel
one; none where the code names no parameter or the channel number does not suit its class (R183 check 3). -/
def paramRef (param channel : Nat) : Option ParamRef :=
  match partParamOf param with
  | some p => if channel = 0 then some (.part p) else none
  | none =>
    match chanParamOf param, chanOf channel with
    | some p, some k => some (.chan p k)
    | _, _ => none

/-- The range of a part parameter, as its codes or its numbers (R182, section 12.6). -/
def PartParam.range : PartParam → Int × Int
  | .frameInterval => (5, 20)
  | .anticipation => (0, 15)
  | .retention => (2000, 50000)
  | .carryLimit => (0, 1000)
  | .horizonCond => (1, 2)
  | .horizonWarning => (10000, 200000)
  | .freeThreshold => (1, 47)
  | .fitting => (1, 2)
  | .lockTime => (5, 100)
  | .settleFrames => (0, 50)
  | .homingLimit => (50, 1000)
  | .lockWindow => (10, 100)
  | .lambda1 => (5000, 40000)
  | .lambda2 => (5000, 40000)
  | .readerOffset => (-20000, 20000)
  | .drift => (1, 50)
  | .uMax => (500, 10000)
  | .uFix => (20, 1000)
  | .slideGain => (0, 100)
  | .presenceTimeout => (50, 2000)
  | .offerTimeout => (500, 5000)
  | .standstillTime => (100, 2000)
  | .refHold => (10, 200)
  | .stabTime => (100, 2000)

/-- The range of a per-channel parameter (R182, section 12.6). -/
def ChanParam.range : ChanParam → Int × Int
  | .enable => (0, 1)
  | .offset => (-20000, 20000)
  | .lever => (200, 1500)
  | .angleLimit => (0, 800)
  | .slew => (1, 100)
  | .tolerance => (5, 200)
  | .persistLimit => (1, 100)
  | .kp => (1, 255)
  | .dmax => (100, 1000)
  | .homingDuty => (50, 500)
  | .scale => (16, 255)

/-- The range of the value named. -/
def ParamRef.range : ParamRef → Int × Int
  | .part p => p.range
  | .chan p _ => p.range

/-- The value lies in the parameter's range, or names one of its values (R183 check 4). -/
def ParamRef.admits (p : ParamRef) (v : Int) : Bool := p.range.1 ≤ v && v ≤ p.range.2

/-- A part parameter's value as the table holds it. -/
def PartParam.get (t : ConfigTable) : PartParam → Int
  | .frameInterval => t.frameInterval
  | .anticipation => t.anticipation
  | .retention => t.retention
  | .carryLimit => t.carryLimit
  | .horizonCond => if t.horizonCond = .shortDistance then 1 else 2
  | .horizonWarning => t.horizonWarning
  | .freeThreshold => t.freeThreshold
  | .fitting => if t.fitting = .twoBogies then 1 else 2
  | .lockTime => t.lockTime
  | .settleFrames => t.settleFrames
  | .homingLimit => t.homingLimit
  | .lockWindow => t.lockWindow
  | .lambda1 => t.lambda.t1
  | .lambda2 => t.lambda.t2
  | .readerOffset => t.readerOffset
  | .drift => t.drift
  | .uMax => t.uMax
  | .uFix => t.uFix
  | .slideGain => t.slideGain
  | .presenceTimeout => t.presenceTimeout
  | .offerTimeout => t.offerTimeout
  | .standstillTime => t.standstillTime
  | .refHold => t.refHold
  | .stabTime => t.stabTime

/-- The table with a part parameter set to an in-range value. -/
def PartParam.set (t : ConfigTable) (v : Int) : PartParam → ConfigTable
  | .frameInterval => { t with frameInterval := v.toNat }
  | .anticipation => { t with anticipation := v.toNat }
  | .retention => { t with retention := v.toNat }
  | .carryLimit => { t with carryLimit := v.toNat }
  | .horizonCond => { t with horizonCond := if v = 1 then .shortDistance else .freeSpace }
  | .horizonWarning => { t with horizonWarning := v.toNat }
  | .freeThreshold => { t with freeThreshold := v.toNat }
  | .fitting => { t with fitting := if v = 1 then .twoBogies else .oneBogie }
  | .lockTime => { t with lockTime := v.toNat }
  | .settleFrames => { t with settleFrames := v.toNat }
  | .homingLimit => { t with homingLimit := v.toNat }
  | .lockWindow => { t with lockWindow := v.toNat }
  | .lambda1 => { t with lambda := { t.lambda with t1 := v.toNat } }
  | .lambda2 => { t with lambda := { t.lambda with t2 := v.toNat } }
  | .readerOffset => { t with readerOffset := v }
  | .drift => { t with drift := v.toNat }
  | .uMax => { t with uMax := v.toNat }
  | .uFix => { t with uFix := v.toNat }
  | .slideGain => { t with slideGain := v.toNat }
  | .presenceTimeout => { t with presenceTimeout := v.toNat }
  | .offerTimeout => { t with offerTimeout := v.toNat }
  | .standstillTime => { t with standstillTime := v.toNat }
  | .refHold => { t with refHold := v.toNat }
  | .stabTime => { t with stabTime := v.toNat }

/-- A per-channel parameter's value in a channel's configuration. -/
def ChanParam.get (c : ChanConfig) : ChanParam → Int
  | .enable => if c.enable then 1 else 0
  | .offset => c.offset
  | .lever => c.lever
  | .angleLimit => c.angleLimit
  | .slew => c.slew
  | .tolerance => c.tolerance
  | .persistLimit => c.persistLimit
  | .kp => c.kp
  | .dmax => c.dmax
  | .homingDuty => c.homingDuty
  | .scale => c.scale

/-- A channel's configuration with a parameter set to an in-range value. -/
def ChanParam.set (c : ChanConfig) (v : Int) : ChanParam → ChanConfig
  | .enable => { c with enable := v = 1 }
  | .offset => { c with offset := v }
  | .lever => { c with lever := v.toNat }
  | .angleLimit => { c with angleLimit := v.toNat }
  | .slew => { c with slew := v.toNat }
  | .tolerance => { c with tolerance := v.toNat }
  | .persistLimit => { c with persistLimit := v.toNat }
  | .kp => { c with kp := v.toNat }
  | .dmax => { c with dmax := v.toNat }
  | .homingDuty => { c with homingDuty := v.toNat }
  | .scale => { c with scale := v.toNat }

/-- The value the table holds for a parameter. -/
def ParamRef.get (t : ConfigTable) : ParamRef → Int
  | .part p => p.get t
  | .chan p k => p.get (t.chan.get k)

/-- The table with one parameter set (R185). -/
def ParamRef.set (t : ConfigTable) (v : Int) : ParamRef → ConfigTable
  | .part p => p.set t v
  | .chan p k => { t with chan := t.chan.set k (p.set (t.chan.get k) v) }

end Machine

end Sys2Proof
end

