-- ==== Sys2Proof/Machine/Frame.lean ====
section
/-! DEFINITION. Frames on the vehicle line (R164 to R166, R208): zero insertion and removal, bits and bytes, the check, and
the layout of a frame's content. -/

namespace Sys2Proof

/-! ### Bits and bytes (R164) -/

/-- The bits of a byte, most significant first. -/
def byteBits (b : Byte) : List Bool :=
  [b.getLsbD 7, b.getLsbD 6, b.getLsbD 5, b.getLsbD 4, b.getLsbD 3, b.getLsbD 2, b.getLsbD 1, b.getLsbD 0]

/-- The bits of bytes in the order they are sent. -/
def bitsOfBytes (bs : List Byte) : List Bool := bs.flatMap byteBits

/-- The number that bits spell, most significant first. -/
def bitsValue (bits : List Bool) : Nat := bits.foldl (fun n b => 2 * n + b.toNat) 0

/-- The bytes that bits spell; none where they are not a whole number of bytes (R165). -/
def bytesOfBits : List Bool → Option (List Byte)
  | [] => some []
  | b7 :: b6 :: b5 :: b4 :: b3 :: b2 :: b1 :: b0 :: rest =>
    (bytesOfBits rest).map (BitVec.ofNat 8 (bitsValue [b7, b6, b5, b4, b3, b2, b1, b0]) :: ·)
  | _ => none

/-- Zero insertion, `n` ones having just been sent: a 0 after every run of five 1 bits, whatever bit follows (R164). -/
def stuffFrom : Nat → List Bool → List Bool
  | _, [] => []
  | _, false :: bs => false :: stuffFrom 0 bs
  | n, true :: bs => if n = 4 then true :: false :: stuffFrom 0 bs else true :: stuffFrom (n + 1) bs

/-- The content's bits as they stand on the line. -/
def stuff (bits : List Bool) : List Bool := stuffFrom 0 bits

/-- Zero removal, `n` ones having just been received: a 0 that follows five 1 bits is removed; none where a sixth 1 bit
follows them, which no content holds (R164). DESIGN CHOICE (log 14): bits that end in five ones, with no 0 inserted after
them, are content as they stand. -/
def unstuffFrom : Nat → List Bool → Option (List Bool)
  | _, [] => some []
  | n, false :: bs => if n = 5 then unstuffFrom 0 bs else (unstuffFrom 0 bs).map (false :: ·)
  | n, true :: bs => if n = 5 then none else (unstuffFrom (n + 1) bs).map (true :: ·)

/-- The content's bits from those on the line. -/
def unstuff (bits : List Bool) : Option (List Bool) := unstuffFrom 0 bits

/-! ### The check (R166) -/

/-- One bit through the check's register: generator x¹⁶ + x¹² + x⁵ + 1. -/
def crcBit (reg : BitVec 16) (b : Bool) : BitVec 16 :=
  if reg.msb != b then (reg <<< 1) ^^^ 0x1021#16 else reg <<< 1

/-- The register after the bytes, preset to all ones. -/
def crc (bs : List Byte) : BitVec 16 := (bitsOfBytes bs).foldl crcBit 0xffff#16

/-- The two check bytes: the register ones-complemented, most significant byte first. -/
def checkBytes (bs : List Byte) : List Byte := beBytes 2 (~~~ crc bs).toNat

/-! ### The content of a frame (R208) -/

/-- The header bytes and payload of a frame. -/
structure RawFrame where
  dest : Nat
  src : Nat
  kind : Nat
  payload : List Byte
  deriving DecidableEq, Repr

/-- The bytes the check covers. -/
def RawFrame.body (f : RawFrame) : List Byte :=
  beBytes 1 f.dest ++ beBytes 1 f.src ++ beBytes 1 f.kind ++ f.payload

/-- The whole content: header, payload and check. -/
def RawFrame.content (f : RawFrame) : List Byte := f.body ++ checkBytes f.body

/-- The bits of the frame between its two flags. -/
def RawFrame.lineBits (f : RawFrame) : List Bool := stuff (bitsOfBytes f.content)

/-- The frame that content bytes spell, if they pass the tests of R165: 5 to 37 bytes, and the check passes. -/
def frameOfContent (c : List Byte) : Option RawFrame :=
  if 5 ≤ c.length ∧ c.length ≤ 37 ∧ c.drop (c.length - 2) = checkBytes (c.take (c.length - 2)) then
    some { dest := beNat (slice c 0 1), src := beNat (slice c 1 1), kind := beNat (slice c 2 1),
           payload := slice c 3 (c.length - 5) }
  else none

/-- The frame that the bits between two flags spell; none where R164 or R165 discards it. -/
def frameOfBits (bits : List Bool) : Option RawFrame :=
  match unstuff bits with
  | none => none
  | some content =>
    match bytesOfBits content with
    | none => none
    | some bytes => frameOfContent bytes

/-- Where a frame goes, by its destination (R168): to this part alone, to every part, or elsewhere. -/
def destOf (own dest : Nat) : Option Dest :=
  if dest = own then some .addressed else if dest = broadcastAddress then some .broadcast else none

/-- The header of a frame that the address filter accepts (R168). -/
def RawFrame.accepted (f : RawFrame) (own : Nat) : Option Hdr :=
  match destOf own f.dest, masterOf f.src with
  | some d, some m => some ⟨m, d⟩
  | _, _ => none

/-- A destination's address on the line. -/
def Dest.address (own : Nat) : Dest → Nat
  | .addressed => own
  | .broadcast => broadcastAddress

/-- The frame that carries a request from a master to this part. -/
def requestFrame (own : Nat) (h : Hdr) (req : Request) : RawFrame :=
  { dest := h.dest.address own, src := h.src.address, kind := req.kindCode, payload := req.payload }

end Sys2Proof
end

