-- ==== Sys2Proof/Machine/Flags.lean ====
section
/-! DEFINITION. The flags the part derives: steering mode, speed restriction level and horizon shortfall condition
(chapter 6), and the status summary of a reply (R174, section 12.5). -/

namespace Sys2Proof.Machine

/-- A state that counts as steering, TRACKING or HOLDING (R136). -/
def ChanState.steers : ChanState → Bool
  | .tracking => true
  | .holding => true
  | _ => false

/-- A released state, RELEASING, TRACKING or HOLDING: what a centring order acts on (R128). -/
def ChanState.released : ChanState → Bool
  | .releasing _ => true
  | .tracking => true
  | .holding => true
  | _ => false

/-- FAULTED in phase lock awaited or lock failed (R137 row 2). -/
def ChanState.faultedOpen : ChanState → Bool
  | .faulted .lockAwaited => true
  | .faulted .lockFailed => true
  | _ => false

/-- A curvature source other than FROM_WINDOW (R137 row 5, R140). -/
def Source.isShort : Source → Bool
  | .fromWindow => false
  | .fromWindowShort => true
  | .carried => true
  | .decaying => true

/-- The two channels have a fitted one among them (R136). -/
def bogieFitted (t : ConfigTable) (i j : Chan) : Bool := t.fitted i || t.fitted j

/-- A bogie is steering: one of its channels is fitted, and every fitted one is in TRACKING or HOLDING (R136). -/
def bogieSteers (t : ConfigTable) (view : Quad ChanView) (i j : Chan) : Bool :=
  bogieFitted t i j && (!t.fitted i || (view.get i).state.steers) && (!t.fitted j || (view.get j).state.steers)

/-- The steering mode, by the first row of R136 that holds. -/
def steeringModeOf (t : ConfigTable) (view : Quad ChanView) : SteeringMode :=
  if !bogieSteers t view .c1 .c2 && !bogieSteers t view .c3 .c4 then .unsteered
  else if (!bogieFitted t .c1 .c2 || bogieSteers t view .c1 .c2) && (!bogieFitted t .c3 .c4 || bogieSteers t view .c3 .c4)
  then .steering
  else .partially

/-- Some fitted channel's view has the property. -/
def someFitted (t : ConfigTable) (view : Quad ChanView) (p : ChanView → Bool) : Bool :=
  Chan.all.any fun k => t.fitted k && p (view.get k)

/-- The speed restriction level, by the first row of R137 that holds. -/
def levelOf (t : ConfigTable) (view : Quad ChanView) (latch : Bool) : Level :=
  if latch then .severe
  else if someFitted t view (·.state.faultedOpen) then .severe
  else if !someFitted t view (fun _ => true) then .reduced
  else if someFitted t view (fun v => !v.state.steers) then .reduced
  else if someFitted t view (·.source.isShort) then .reduced
  else .none

/-- The horizon shortfall condition (R140). -/
def shortfallOf (t : ConfigTable) (view : Quad ChanView) (routeOpen : Bool) (conf : Confidence) : Bool :=
  routeOpen && conf == .placed && someFitted t view (fun v => v.state.steers && v.source.isShort)

/-- The derivation of R127: steering mode, speed restriction level and horizon shortfall condition anew;
HORIZON_SHORTFALL is raised, or its record reported inactive, when the condition changes (R140). -/
def derive (s : State) : State :=
  let met := shortfallOf s.ct.table s.sv.view s.sv.routeOpen s.sv.conf
  let s' := s.setSv { s.sv with
    steering := steeringModeOf s.ct.table s.sv.view
    level := levelOf s.ct.table s.sv.view s.sv.latch
    shortfall := met }
  if met && !s.sv.shortfall then raiseFault .horizonShortfall .none s'
  else if !met && s.sv.shortfall then reportInactive .horizonShortfall .none s'
  else s'

/-- The report of the Steering Schedule when a channel's curvature source has changed (R38), with the derivation it
brings (R127). -/
def reportSource (k : Chan) (s : State) : State :=
  let v := { s.sv.view.get k with source := (s.ss.get k).source }
  if s.sv.view.get k = v then s else derive (s.setSv { s.sv with view := s.sv.view.set k v })

/-- The reports of the Route Window and of the Position Fix Unit when the route-open flag or the confidence has changed
(R72, R126), with the derivation they bring (R127). -/
def reportRoute (s : State) : State :=
  if s.sv.routeOpen = s.rw.isOpen ∧ s.sv.conf = s.pfu.conf then s
  else derive (s.setSv { s.sv with routeOpen := s.rw.isOpen, conf := s.pfu.conf })

/-- The status summary of a reply to this master, as the blocks hold its items at this moment (R174). -/
def summaryFor (m : Master) (s : State) : Summary :=
  { mode := s.ct.mode, auth := s.aa.auth, routeOpen := s.rw.isOpen, conf := s.pfu.conf, steering := s.sv.steering,
    level := s.sv.level, latch := s.sv.latch, horizonLow := s.rw.horizonLow, notice := s.sv.notice.get m,
    listFull := s.sv.listFull, overrun := s.li.overrun }

end Sys2Proof.Machine
end

