-- ==== Sys2Proof/Machine/Channel.lean ====
section
/-! DEFINITION. The actuator channels (chapter 5) with the Supervisor's orders to them (sections 6.2, 6.6): the drive
stage, measurement, entries into each state, target deliveries, conversion completions and sensor changes. -/

namespace Sys2Proof.Machine

/-! ### Drive stage and conversions -/

/-- A duty loaded into the stage (R95): it becomes the waiting duty; a load into an off stage energises it with zero
duty applied for the first period. -/
def Drive.load (d : Drive) (duty : Int) : Drive :=
  match d with
  | .off => .energised 0 (some duty)
  | .energised applied _ => .energised applied (some duty)

/-- The start of a drive period (R95): a waiting duty becomes the applied duty. -/
def Drive.periodStart (d : Drive) : Drive :=
  match d with
  | .off => .off
  | .energised _ (some duty) => .energised duty none
  | .energised applied none => .energised applied none

/-- The start of a conversion at a delivery: none is started while one is in flight (R93). -/
def Conversion.start : Conversion → Conversion
  | .none => .inFlight false
  | .inFlight r => .inFlight r

/-- A transition that needs a fresh conversion: it starts one at once, or requests one of the conversion in flight
(R93). -/
def Conversion.needFresh : Conversion → Conversion
  | .none => .inFlight false
  | .inFlight _ => .inFlight true

/-- The measured angle from a raw code (R94). -/
def measured (raw z c : Nat) : Int := trunc (((raw : Int) - z) * c) 64

/-- The raw code is out of range: 8 or less, or 4087 or more (R94). -/
def codeOutOfRange (raw : Nat) : Bool := raw ≤ Config.codeLow || Config.codeHigh ≤ raw

/-- The position loop's duty (R96). -/
def loopDuty (theta m : Int) (kp dmax : Nat) : Int := clamp (trunc ((theta - m) * kp) 8) (-(dmax : Int)) dmax

/-- The position loop runs in this state (R91), the sensor being trusted in the lock failed phase (R118). -/
def Channel.loopRuns (ch : Channel) : Bool :=
  match ch.state with
  | .releasing _ => true
  | .tracking => true
  | .holding => true
  | .centring _ => true
  | .faulted .lockFailed => !ch.untrusted
  | _ => false

/-! ### Entries into states -/

/-- Every timer of the channel idle. -/
def Channel.timersIdle (ch : Channel) : Channel :=
  { ch with homingT := none, lockT := none, settle := none, centringT := none }

/-- Entry into UNHOMED from a state whose target is 0 (R120, R123, R125). -/
def Channel.toUnhomed (ch : Channel) : Channel :=
  { ch.timersIdle with state := .unhomed, theta := 0, mark := false, untrusted := false, drive := .off, solenoid := false }

/-- Entry into HOMING, assessing phase, needing a fresh conversion (R98). -/
def Channel.toHoming (ch : Channel) : Channel :=
  { ch.timersIdle with state := .homing .assessing, theta := 0, homingT := some 0, drive := .off, solenoid := false,
                       conv := ch.conv.needFresh }

/-- Entry into LOCKED (R115): a contact already reading other than ENGAGED starts the lock timer at this entry. -/
def Channel.toLocked (ch : Channel) : Channel :=
  { ch.timersIdle with state := .locked, drive := .off, solenoid := false
                       lockT := if ch.contact = .engaged then none else some 0 }

/-- Entry into FAULTED from the paths of R102, R106, R109 and R117, and on HOMING_DISAGREE: the drive goes off and the
solenoid is de-energised; the phase is lock engaged when the contact reads ENGAGED and θ is 0, lock awaited otherwise
(R116). DESIGN CHOICE (log 25): with the contact reading ENGAGED the lock timer is idle in lock awaited too, as R116 has it,
where R106 and R117 say only that the phase begins with the timer at 0. -/
def Channel.toFaulted (ch : Channel) : Channel :=
  { ch.timersIdle with
    state := if ch.contact = .engaged ∧ ch.theta = 0 then .faulted .lockEngaged else .faulted .lockAwaited
    drive := .off, solenoid := false
    lockT := if ch.contact = .engaged then none else some 0 }

/-- Entry into FAULTED in phase lock failed, or the move to it (R118): the lock timer becomes idle. -/
def Channel.toLockFailed (ch : Channel) : Channel :=
  { ch.timersIdle with state := .faulted .lockFailed, solenoid := false }

/-- Entry into TRACKING from RELEASING (R108); while a hold mode stands, into HOLDING in the same event (R133). -/
def Channel.toTracking (hold : HoldMode) (ch : Channel) : Channel :=
  { ch.timersIdle with state := if hold = .none then .tracking else .holding, theta := 0, persist := 0 }

/-- The taking of a RELEASED reading in the awaiting phase (R105): the lock timer stops where it stands and the settling
phase begins, or, with settle frames 0, TRACKING. -/
def Channel.takeReleased (t : ConfigTable) (hold : HoldMode) (ch : Channel) : Channel :=
  if t.settleFrames = 0 then ch.toTracking hold else { ch with state := .releasing .settling, settle := some 0 }

/-- Entry into RELEASING (R105): a contact already reading RELEASED is taken at once. -/
def Channel.toReleasing (t : ConfigTable) (hold : HoldMode) (ch : Channel) : Channel :=
  let ch' := { ch.timersIdle with state := .releasing .awaiting, solenoid := true, lockT := some 0 }
  if ch'.contact = .released then ch'.takeReleased t hold else ch'

/-- Entry into CENTRING, stepping phase, with or without a fault mark (R110). -/
def Channel.toCentring (mark : Bool) (ch : Channel) : Channel :=
  { ch.timersIdle with state := .centring .stepping, mark := mark, persist := 0, centringT := some 0 }

/-- The engagement of R113: the drive goes off, and the channel enters LOCKED, or with its fault mark set FAULTED in
phase lock engaged with the mark cleared. -/
def Channel.takeEngaged (ch : Channel) : Channel :=
  if ch.mark then
    { ch.timersIdle with state := .faulted .lockEngaged, mark := false, drive := .off, solenoid := false }
  else ch.toLocked

/-- Entry into the engaging phase of CENTRING (R111): the solenoid is de-energised and the lock timer starts at 0; a
contact already reading ENGAGED is taken at once. -/
def Channel.toEngaging (ch : Channel) : Channel :=
  let ch' := { ch.timersIdle with state := .centring .engaging, solenoid := false, lockT := some 0 }
  if ch'.contact = .engaged then ch'.takeEngaged else ch'

/-- Entry into the capturing phase of HOMING (R100, R101). -/
def Channel.toCapturing (ch : Channel) : Channel :=
  { ch with state := .homing .capturing, drive := .off, solenoid := false, lockT := none, conv := ch.conv.needFresh }

/-- What the seeking phase does on a centre sensor reading, at entry and at each change (R100). -/
def Channel.seekAct (homingDuty : Nat) (ch : Channel) : Channel :=
  match ch.centre with
  | .left => { ch with drive := ch.drive.load (-(homingDuty : Int)) }
  | .right => { ch with drive := ch.drive.load homingDuty }
  | .centre => { ch with state := .homing .engaging, drive := .off, solenoid := false, lockT := some 0 }

/-- Entry into the seeking phase (R100): the solenoid is energised, and the reading acted on. -/
def Channel.toSeeking (homingDuty : Nat) (ch : Channel) : Channel :=
  { ch with state := .homing .seeking, solenoid := true }.seekAct homingDuty

/-- Entry into ABSENT (R123). -/
def Channel.toAbsent (ch : Channel) : Channel :=
  { ch.timersIdle with state := .absent, theta := 0, mark := false, untrusted := false, drive := .off, solenoid := false,
                       conv := .none }

/-- SENSOR_RANGE (R117): the drive goes off at once, the solenoid is de-energised and the sensor is no longer trusted; a
channel not yet FAULTED enters FAULTED with its fault mark cleared, and one already FAULTED stays in its phase. -/
def Channel.sensorRange (ch : Channel) : Channel :=
  match ch.state with
  | .faulted _ => { ch with drive := .off, solenoid := false, untrusted := true }
  | _ => { ch with drive := .off, solenoid := false, untrusted := true, mark := false }.toFaulted

/-! ### Committing a channel's change -/

/-- A channel after an event, with the faults the event raised, in order. -/
structure ChanStep where
  ch : Channel
  faults : List FaultCode
  deriving DecidableEq, Repr

/-- The state with one channel's record replaced, nothing reported. -/
def putChannel (k : Chan) (ch : Channel) (s : State) : State := s.setAc (s.ac.set k ch)

/-- DRIVE_PERIOD_START: the start of a drive period of channel k's stage (R95); a stage that is off has no periods. -/
def drivePeriodStart (k : Chan) (s : State) : State :=
  putChannel k { s.ac.get k with drive := (s.ac.get k).drive.periodStart } s

/-- The channel's report of its state, phase and fault mark to the Supervisor; one that changes the view brings the
derivation (R91, R127). -/
def reportState (k : Chan) (s : State) : State :=
  let ch := s.ac.get k
  let v := { s.sv.view.get k with state := ch.state, mark := ch.mark }
  if s.sv.view.get k = v then s else derive (s.setSv { s.sv with view := s.sv.view.set k v })

/-- A centring order (R128): a channel in RELEASING, TRACKING or HOLDING enters CENTRING without a fault mark; a channel
in any other state is not changed. -/
def centringOrder (k : Chan) (s : State) : State :=
  let ch := s.ac.get k
  if ch.state.released then reportState k (putChannel k (ch.toCentring false) s) else s

/-- A centring order to every fitted channel (R128); a channel that is not fitted is in none of the states it acts on. -/
def centringOrders (s : State) : State :=
  centringOrder .c4 (centringOrder .c3 (centringOrder .c2 (centringOrder .c1 s)))

/-- The state and mark that call for the bogie partner rule: FAULTED, or CENTRING with the fault mark set (R129). -/
def callsPartnerRule (ch : Channel) : Bool :=
  match ch.state with
  | .faulted _ => true
  | .centring _ => ch.mark
  | _ => false

/-- The setting of the isolation latch on a LOCK_FAIL report, with its centring orders (R138). -/
def setLatch (s : State) : State := derive (centringOrders (s.setSv { s.sv with latch := true }))

/-- The report of a channel whose record has just been replaced, if its state, phase or mark differs from the record
before (R91), with the bogie partner rule where the report calls for it (R129, R130). -/
def reportChange (k : Chan) (before : Channel) (s : State) : State :=
  let ch := s.ac.get k
  if before.state = ch.state ∧ before.mark = ch.mark then s
  else if callsPartnerRule ch then centringOrder k.partner (reportState k s)
  else reportState k s

/-- A channel's change taken whole: its faults are reported in order (R119, R199), its record replaced, its new state
reported with what that brings, and a LOCK_FAIL taken to the isolation latch (R138). -/
def commit (k : Chan) (st : ChanStep) (s : State) : State :=
  let s1 := st.faults.foldl (fun s c => raiseFault c (.chan k) s) s
  let s2 := reportChange k (s.ac.get k) (putChannel k st.ch s1)
  if st.faults.contains .lockFail then setLatch s2 else s2

/-! ### The thresholds of timers and counts

Each is taken inside the delivery or completion that reaches it; the table's row of the same name is the same operation
standing alone (log 2). -/

/-- A timer stands at or beyond its limit. -/
def reached (timer : Option Nat) (limit : Nat) : Bool :=
  match timer with
  | none => false
  | some n => limit ≤ n

/-- HOMING_TIMEOUT (R102): the homing timer at the homing limit in the assessing or seeking phase. -/
def homingTimeout (k : Chan) (s : State) : State :=
  let ch := s.ac.get k
  if (ch.state = .homing .assessing ∨ ch.state = .homing .seeking) ∧ reached ch.homingT s.ct.table.homingLimit then
    commit k ⟨ch.toFaulted, [.homingTimeout]⟩ s
  else s

/-- LOCK_STUCK (R106, R109): the lock timer at the lock time in RELEASING awaiting, in TRACKING or in HOLDING; the lock time
is that of the timer's last increment (R122). -/
def lockStuck (k : Chan) (s : State) : State :=
  let ch := s.ac.get k
  if (ch.state = .releasing .awaiting ∨ ch.state = .tracking ∨ ch.state = .holding) ∧
      reached ch.lockT s.ct.used.lockTime then
    commit k ⟨ch.toFaulted, [.lockStuck]⟩ s
  else s

/-- LOCK_FAIL (R101, R113, R115, R116, R118): the lock timer at the lock time where the lock is awaited or watched. A lock
time lowered since the timer's last increment is not compared with before the next one (R122). -/
def lockFail (k : Chan) (s : State) : State :=
  let ch := s.ac.get k
  if (ch.state = .homing .engaging ∨ ch.state = .centring .engaging ∨ ch.state = .locked ∨
        ch.state = .faulted .lockAwaited ∨ ch.state = .faulted .lockEngaged) ∧
      reached ch.lockT s.ct.used.lockTime then
    commit k ⟨ch.toLockFailed, [.lockFail]⟩ s
  else s

/-- SETTLE_FRAMES_REACHED (R105): the settle count at the settle frames setting in RELEASING settling. -/
def settleFramesReached (k : Chan) (s : State) : State :=
  let ch := s.ac.get k
  if ch.state = .releasing .settling ∧ reached ch.settle s.ct.table.settleFrames then
    commit k ⟨ch.toTracking s.sv.hold, []⟩ s
  else s

/-- CENTRING_TIMER_EXPIRY (R112): the centring timer at the homing limit in CENTRING stepping; TRACKING_ERROR is raised
if the fault mark is clear, the mark is set, and the engaging phase begins. -/
def centringTimerExpiry (k : Chan) (s : State) : State :=
  let ch := s.ac.get k
  if ch.state = .centring .stepping ∧ reached ch.centringT s.ct.table.homingLimit then
    let s1 := commit k ⟨{ ch with mark := true }, if ch.mark then [] else [.trackingError]⟩ s
    commit k ⟨(s1.ac.get k).toEngaging, []⟩ s1
  else s

/-- TRACKING_ERROR (R108): the persistence count at the persistence limit in TRACKING or HOLDING. -/
def trackingError (k : Chan) (s : State) : State :=
  let ch := s.ac.get k
  if ch.state.steers ∧ (s.ct.table.chan.get k).persistLimit ≤ ch.persist then
    commit k ⟨ch.toCentring true, [.trackingError]⟩ s
  else s

/-! ### The target delivery -/

/-- The target rule of each state at a delivery of `v` (R91, R97), and the hold mode in TRACKING (R132). -/
def Channel.applyTarget (hold : HoldMode) (slew : Nat) (v : Int) (ch : Channel) : Channel :=
  match ch.state with
  | .absent => ch
  | .unhomed => { ch with theta := 0 }
  | .homing _ => { ch with theta := 0 }
  | .locked => { ch with theta := 0 }
  | .releasing _ => { ch with theta := 0 }
  | .tracking =>
    match hold with
    | .none => { ch with theta := v }
    | .immediate => { ch with state := .holding }
    | .atCentre =>
      if ch.theta.natAbs ≤ slew then { ch with theta := 0, state := .holding }
      else { ch with theta := stepToZero slew ch.theta }
  | .holding => ch
  | .centring _ => { ch with theta := stepToZero slew ch.theta }
  | .faulted _ => { ch with theta := stepToZero slew ch.theta }

/-- A running timer's increment. -/
def bump : Option Nat → Option Nat := Option.map (· + 1)

/-- The timers a delivery counts, by state and phase, after the target rule (R98, R101, R105, R109, R112, R113, R115,
R116). -/
def Channel.countDelivery (ch : Channel) : Channel :=
  match ch.state with
  | .absent => ch
  | .unhomed => ch
  | .homing .assessing => { ch with homingT := bump ch.homingT }
  | .homing .seeking => { ch with homingT := bump ch.homingT }
  | .homing .engaging => { ch with lockT := bump ch.lockT }
  | .homing .capturing => ch
  | .locked => { ch with lockT := bump ch.lockT }
  | .releasing .awaiting => { ch with lockT := bump ch.lockT }
  | .releasing .settling => { ch with settle := bump ch.settle }
  | .tracking => { ch with lockT := bump ch.lockT }
  | .holding => { ch with lockT := bump ch.lockT }
  | .centring .stepping => if ch.theta = 0 then { ch with centringT := bump ch.centringT } else ch
  | .centring .engaging => { ch with lockT := bump ch.lockT }
  | .faulted .lockAwaited => { ch with lockT := bump ch.lockT }
  | .faulted .lockEngaged => { ch with lockT := bump ch.lockT }
  | .faulted .lockFailed => ch

/-- A faulted channel at the delivery that brings θ to 0 with its contact reading ENGAGED: the lock engaged phase, the
drive off (R116, R118). -/
def Channel.engageAtZero (ch : Channel) : Channel :=
  if (ch.state = .faulted .lockAwaited ∨ ch.state = .faulted .lockFailed) ∧ ch.contact = .engaged ∧ ch.theta = 0 then
    { ch with state := .faulted .lockEngaged, drive := .off, lockT := none }
  else ch

/-- A target delivery of `v` to a fitted channel: the value is kept as the scheduled angle (R45), the target rule
applied, the timers counted, and a conversion started (R93). -/
def Channel.takeDelivery (hold : HoldMode) (slew : Nat) (v : Int) (ch : Channel) : Channel :=
  let ch' := ({ ch with sched := v }.applyTarget hold slew v).countDelivery.engageAtZero
  { ch' with conv := ch'.conv.start }

/-- A target delivery with the thresholds it may reach (R45). -/
def deliver (k : Chan) (v : Int) (s : State) : State :=
  let ch := (s.ac.get k).takeDelivery s.sv.hold (s.ct.table.chan.get k).slew v
  lockFail k (centringTimerExpiry k (settleFramesReached k (lockStuck k (homingTimeout k (commit k ⟨ch, []⟩ s)))))

/-! ### The conversion completion -/

/-- The work of the channel's state at the completion of an in-range conversion (R94): the assessment and capture of
homing (R99, R101), verification's count (R108), and the engaging test of centring (R111). -/
def Channel.completionWork (t : ConfigTable) (cfg : ChanConfig) (fresh : Bool) (raw : Nat) (ch : Channel) : ChanStep :=
  match ch.state with
  | .homing .assessing =>
    if !fresh then ⟨ch, []⟩
    else if ch.contact = .engaged then
      if ch.centre = .centre then ⟨{ ch with z := raw }.toLocked, []⟩
      else ⟨ch.toFaulted, [.homingDisagree]⟩
    else ⟨ch.toSeeking cfg.homingDuty, []⟩
  | .homing .capturing => if fresh then ⟨{ ch with z := raw }.toLocked, []⟩ else ⟨ch, []⟩
  | .tracking =>
    ⟨{ ch with persist := if cfg.tolerance < (ch.theta - ch.m).natAbs then ch.persist + 1 else 0 }, []⟩
  | .holding =>
    ⟨{ ch with persist := if cfg.tolerance < (ch.theta - ch.m).natAbs then ch.persist + 1 else 0 }, []⟩
  | .centring .stepping =>
    if ch.theta = 0 ∧ ch.m.natAbs ≤ t.lockWindow then ⟨ch.toEngaging, []⟩ else ⟨ch, []⟩
  | _ => ⟨ch, []⟩

/-- The position loop's load, in the states where it runs (R96). -/
def loadLoopDuty (k : Chan) (s : State) : State :=
  let ch := s.ac.get k
  let cfg := s.ct.table.chan.get k
  if ch.loopRuns then putChannel k { ch with drive := ch.drive.load (loopDuty ch.theta ch.m cfg.kp cfg.dmax) } s else s

/-- The completion of channel k's conversion in flight, with its raw code (R93, R94): the conversion ends, the fresh one
requested of it starts, m is formed; an out-of-range code takes the path of R117 outside UNHOMED; otherwise the work of the
state is done and, unless that work raised TRACKING_ERROR (R108), the loop's duty is loaded where the loop runs. -/
def completeConversion (k : Chan) (raw : Nat) (s : State) : State :=
  let old := s.ac.get k
  let cfg := s.ct.table.chan.get k
  match old.conv with
  | .none => s
  | .inFlight freshRequest =>
    let ch := { old with conv := if freshRequest then .inFlight false else .none, m := measured raw old.z cfg.scale }
    if codeOutOfRange raw ∧ ch.state ≠ .unhomed then commit k ⟨ch.sensorRange, [.sensorRange]⟩ s
    else
      let s1 := commit k (ch.completionWork s.ct.table cfg (!freshRequest) raw) s
      let s2 := trackingError k s1
      if (s1.ac.get k).state.steers ∧ ¬ (s2.ac.get k).state.steers then s2 else loadLoopDuty k s2

/-! ### Sensor changes -/

/-- The lock contact decoded from its two pins (R211). -/
def decodeContact (lke lkr : Bool) : Contact :=
  match lke, lkr with
  | true, false => .engaged
  | false, true => .released
  | true, true => .between
  | false, false => .between

/-- The centre sensor decoded from its two pins (R211). -/
def decodeCentre (ctl ctr : Bool) : Centre :=
  match ctl, ctr with
  | true, false => .left
  | false, true => .right
  | true, true => .centre
  | false, false => .centre

/-- The lock watch of LOCKED and FAULTED at a change to the reading `r` (R115, R116): a contact that leaves ENGAGED starts
the lock timer at 0, which runs on across RELEASED and BETWEEN; ENGAGED makes it idle. -/
def watchEngaged (old r : Contact) (timer : Option Nat) : Option Nat :=
  if r = .engaged then none else if old = .engaged then some 0 else timer

/-- The watch of TRACKING and HOLDING (R109), with RELEASED in place of ENGAGED. -/
def watchReleased (old r : Contact) (timer : Option Nat) : Option Nat :=
  if r = .released then none else if old = .released then some 0 else timer

/-- A change of the lock contact reading to `r`, by state and phase (R100, R101, R105, R109, R113, R115, R116, R118). -/
def Channel.contactChange (t : ConfigTable) (hold : HoldMode) (r : Contact) (old : Channel) : ChanStep :=
  let ch := { old with contact := r }
  match old.state with
  | .homing .seeking =>
    if r = .engaged then
      if ch.centre = .centre then ⟨ch.toCapturing, []⟩ else ⟨ch.toFaulted, [.homingDisagree]⟩
    else ⟨ch, []⟩
  | .homing .engaging => if r = .engaged then ⟨ch.toCapturing, []⟩ else ⟨ch, []⟩
  | .locked => ⟨{ ch with lockT := watchEngaged old.contact r ch.lockT }, []⟩
  | .releasing .awaiting => if r = .released then ⟨ch.takeReleased t hold, []⟩ else ⟨ch, []⟩
  | .releasing .settling => ⟨{ ch with state := .releasing .awaiting, settle := none }, []⟩
  | .tracking => ⟨{ ch with lockT := watchReleased old.contact r ch.lockT }, []⟩
  | .holding => ⟨{ ch with lockT := watchReleased old.contact r ch.lockT }, []⟩
  | .centring .engaging => if r = .engaged then ⟨ch.takeEngaged, []⟩ else ⟨ch, []⟩
  | .faulted .lockAwaited => ⟨{ ch with lockT := watchEngaged old.contact r ch.lockT }.engageAtZero, []⟩
  | .faulted .lockEngaged => ⟨{ ch with lockT := watchEngaged old.contact r ch.lockT }, []⟩
  | .faulted .lockFailed => ⟨ch.engageAtZero, []⟩
  | _ => ⟨ch, []⟩

/-- A change of channel k's lock contact pins: one event when the decoded reading changes, and none otherwise (R92,
R211). In SLEEP it updates the last reading only (R125): every fitted channel is UNHOMED there. -/
def lockContactChange (k : Chan) (lke lkr : Bool) (s : State) : State :=
  let ch := s.ac.get k
  let r := decodeContact lke lkr
  if r = ch.contact then s else commit k (ch.contactChange s.ct.table s.sv.hold r) s

/-- A change of the centre sensor reading to `r`: the seeking phase of HOMING acts on it (R100); every other state keeps
the reading alone (R92). -/
def Channel.centreChange (homingDuty : Nat) (r : Centre) (old : Channel) : Channel :=
  let ch := { old with centre := r }
  if old.state = .homing .seeking then ch.seekAct homingDuty else ch

/-- A change of channel k's centre sensor pins (R92, R211). -/
def centreSensorChange (k : Chan) (ctl ctr : Bool) (s : State) : State :=
  let ch := s.ac.get k
  let r := decodeCentre ctl ctr
  if r = ch.centre then s else commit k ⟨ch.centreChange (s.ct.table.chan.get k).homingDuty r, []⟩ s

/-! ### The channel requests -/

/-- The set of channels a reply carries: bit k − 1 for channel k (section 12.3). -/
def channelSet (p : Chan → Bool) : Nat :=
  (if p .c1 then 1 else 0) + (if p .c2 then 2 else 0) + (if p .c3 then 4 else 0) + (if p .c4 then 8 else 0)

/-- The channel qualifies for release: LOCKED, and its partner LOCKED or ABSENT (R104). -/
def qualifies (s : State) (k : Chan) : Bool :=
  fitted s k && (s.ac.get k).state == .locked &&
    ((s.ac.get k.partner).state == .locked || (s.ac.get k.partner).state == .absent)

/-- Channel k's entry into RELEASING, if it is one of those that qualified. -/
def releaseIf (qual : Chan → Bool) (k : Chan) (s : State) : State :=
  if qual k then commit k ⟨(s.ac.get k).toReleasing s.ct.table s.sv.hold, []⟩ s else s

/-- Every qualifying channel enters RELEASING in the one request (R104). -/
def releaseAll (s : State) : State :=
  releaseIf (qualifies s) .c4 (releaseIf (qualifies s) .c3 (releaseIf (qualifies s) .c2 (releaseIf (qualifies s) .c1 s)))

/-- The channel is in one of the states that CENTRE_ALL sends to CENTRING (R114). -/
def isReleased (s : State) (k : Chan) : Bool := (s.ac.get k).state.released

/-- A channel in HOLDING moved to TRACKING with θ as it stands (R134). -/
def resumeOne (k : Chan) (s : State) : State :=
  let ch := s.ac.get k
  if ch.state = .holding then commit k ⟨{ ch with state := .tracking }, []⟩ s else s

/-- Every channel in HOLDING moved to TRACKING (R134). -/
def resumeAll (s : State) : State := resumeOne .c4 (resumeOne .c3 (resumeOne .c2 (resumeOne .c1 s)))

/-- A FAULTED channel's leaving of FAULTED reports its records inactive; of any other channel, nothing (R120). -/
def inactiveIfFaulted (k : Chan) (s : State) : State :=
  match (s.ac.get k).state with
  | .faulted _ => reportChannelInactive k s
  | _ => s

/-- A channel made UNHOMED and, in RUN, HOMING at once (R98, R120). -/
def rehome (k : Chan) (s : State) : State :=
  let ch := (s.ac.get k).toUnhomed
  commit k ⟨if s.ct.mode = .run then ch.toHoming else ch, []⟩ s

/-- The channel's part in CLEAR_FAULTS (R120, R204 step 1). -/
def clearChannel (k : Chan) (s : State) : State :=
  if fitted s k ∧ (s.ac.get k).state = .faulted .lockEngaged then rehome k (reportChannelInactive k s) else s

/-- A fitting change at channel k (R123), against the configuration before it: a channel made absent enters ABSENT, with
its records reported inactive if it was FAULTED; a channel made fitted enters UNHOMED and, in RUN, HOMING; its schedule
record is reset and reported (R29, R38). -/
def refit (before : ConfigTable) (k : Chan) (s : State) : State :=
  if before.fitted k ∧ ¬ fitted s k then
    let s1 := inactiveIfFaulted k s
    commit k ⟨(s1.ac.get k).toAbsent, []⟩ s1
  else if ¬ before.fitted k ∧ fitted s k then
    let s1 := reportSource k (s.setSs (s.ss.set k SsRec.reset))
    rehome k (putChannel k { s1.ac.get k with persist := 0 } s1)
  else s

end Sys2Proof.Machine
end

