-- ==== Sys2Proof/Machine/Window.lean ====
section
/-! DEFINITION. The Route Window (chapter 1): lookup, the position sample, the beacon lists and marks, and the requests
OPEN_ROUTE, APPEND_SEGMENT and CLOSE_ROUTE. -/

namespace Sys2Proof.Machine

/-- What an owner returns to the Line Interface within the dispatch: the state after, the result code, and the reply items
fixed at dispatch (R171, R172). -/
structure Taken where
  state : State
  result : Result
  items : List Byte
  deriving DecidableEq, Repr

/-- A refusal with no items: nothing changes (R172). -/
def Taken.refuse (s : State) (r : Result) : Taken := ⟨s, r, []⟩

/-! ### Lookup (R7, R9) -/

/-- The sum of the lengths of records. -/
def totalLength : List Segment → Nat
  | [] => 0
  | g :: gs => g.length + totalLength gs

/-- The record covering x among records of which the rearmost starts at `start`; each covers its half-open interval. -/
def lookupFrom (start : Nat) : List Segment → Int → Option Covering
  | [], _ => none
  | g :: gs, x =>
    if (start : Int) ≤ x ∧ x < start + g.length then some ⟨start, g.length, g.geo⟩ else lookupFrom (start + g.length) gs x

/-- The lookup of a route distance: the covering record with its start, or none, *outside* (R9). -/
def Rw.lookup (rw : Rw) (x : Int) : Option Covering := if rw.isOpen then lookupFrom rw.rear rw.segs x else none

/-! ### The position sample at the window (R10 to R13) -/

/-- The look offset (R10, R32). -/
def lookOffset (d : Int) (anticipation : Nat) : Int := trunc (d * anticipation) 1000

/-- A vehicle-frame offset carried into the route sense from a reference position (R10, R76). -/
def alongRoute (lead : VehicleEnd) (ref : Nat) (offset : Int) : Int :=
  match lead with
  | .a => ref + offset
  | .b => ref - offset

/-- A channel's wheelset position for a sample (R10). -/
def wheelPosition (s : State) (sample : Sample) (k : Chan) : Int :=
  alongRoute s.rw.lead (wholeMm sample.r) (s.ct.table.chan.get k).offset

/-- A channel's look point for a sample (R10). -/
def lookPoint (s : State) (sample : Sample) (k : Chan) : Int :=
  wheelPosition s sample k + lookOffset sample.d s.ct.table.anticipation

/-- The fitted channels, in order. -/
def fittedChannels (s : State) : List Chan := Chan.all.filter (fitted s)

/-- The retiring of rear records whose end is at or behind the bound (R11). -/
def retireFrom (bound : Int) : Nat → List Segment → Nat × List Segment
  | rear, [] => (rear, [])
  | rear, g :: gs => if (rear : Int) + g.length ≤ bound then retireFrom bound (rear + g.length) gs else (rear, g :: gs)

/-- The smallest of a list of positions, if there is one. -/
def minimum : List Int → Option Int
  | [] => none
  | x :: xs => match minimum xs with
    | none => some x
    | some y => some (min x y)

/-- The largest of a list of positions, if there is one. -/
def maximum : List Int → Option Int
  | [] => none
  | x :: xs => match maximum xs with
    | none => some x
    | some y => some (max x y)

/-- The window after a sample's retirement (R11); with no fitted channel no record retires. -/
def retired (s : State) (sample : Sample) : Rw :=
  match minimum ((fittedChannels s).map (wheelPosition s sample)) with
  | none => s.rw
  | some pMin =>
    let after := retireFrom (pMin - s.ct.table.retention) s.rw.rear s.rw.segs
    { s.rw with rear := after.1, segs := after.2 }

/-- The horizon notice's test on a window, with the look points of the fitted channels (R13). -/
def horizonTest (t : ConfigTable) (rw : Rw) (looks : List Int) : Bool :=
  match t.horizonCond with
  | .shortDistance =>
    match maximum looks with
    | none => false
    | some q => (rw.front : Int) - q < t.horizonWarning
  | .freeSpace => t.freeThreshold ≤ Config.windowCapacity - rw.segs.length

/-- What is handed on for one channel, from the window after retirement (R12). -/
def handEntry (s : State) (rw : Rw) (sample : Sample) (k : Chan) : HandEntry :=
  if fitted s k then
    .formed ⟨wheelPosition s sample k, lookPoint s sample k, rw.lookup (wheelPosition s sample k),
      rw.lookup (lookPoint s sample k)⟩
  else .notFitted

/-- The Route Window's handling of a position sample: retirement, lookups and the horizon notice with a route open (R10 to
R13), and only the handing on without one (R24). -/
def windowTakes (sample : Sample) (s : State) : State :=
  if s.rw.isOpen then
    let rw := retired s sample
    let low := horizonTest s.ct.table rw ((fittedChannels s).map (lookPoint s sample))
    let entries := Quad.build (handEntry s rw sample)
    (s.setRw { rw with horizonLow := low }).setPath { s.path with atSs := s.path.atSs ++ [⟨sample, entries⟩] }
  else
    let entries := Quad.build fun k => if fitted s k then HandEntry.noRoute else .notFitted
    (s.setRw { s.rw with horizonLow := false }).setPath { s.path with atSs := s.path.atSs ++ [⟨sample, entries⟩] }

/-- SAMPLE_AT_RW: the oldest sample on its way to the Route Window arrives; with none on its way nothing happens
(log 6). -/
def sampleAtRw (s : State) : State :=
  match s.path.atRw with
  | [] => s
  | sample :: rest => windowTakes sample (s.setPath { s.path with atRw := rest })

/-! ### Beacons (R5, R15) -/

/-- A beacon of the window as the Position Fix Unit is given it: record index, beacon ID, route distance, status
(R15). -/
structure BeaconAt where
  index : Nat
  id : Nat
  distance : Nat
  status : BeaconStatus
  deriving DecidableEq, Repr

/-- The beacons of records of which the rearmost starts at `start`, from rear to front. -/
def beaconsFrom (start : Nat) : List Segment → List BeaconAt
  | [] => []
  | g :: gs =>
    match g.beacon with
    | none => beaconsFrom (start + g.length) gs
    | some b => ⟨g.index, b.id, start + b.offset, b.status⟩ :: beaconsFrom (start + g.length) gs

/-- The beacons held in the window; none while no route is open (R15, R24). -/
def Rw.beacons (rw : Rw) : List BeaconAt := if rw.isOpen then beaconsFrom rw.rear rw.segs else []

/-- A record with its beacon's status set by a mark, if the mark names the record and the beacon is PENDING (R15). -/
def Segment.applyMark (m : Mark) (g : Segment) : Segment :=
  match g.beacon with
  | none => g
  | some b => if g.index = m.index ∧ b.status = .pending then { g with beacon := some { b with status := m.status } } else g

/-- BEACON_MARK: the oldest mark on its way reaches the Route Window, which applies it or discards it (R15); either way it
leaves the Position Fix Unit's marks in flight (R77). A mark made void by an emptying of the window is discarded. -/
def beaconMark (s : State) : State :=
  match s.path.marks with
  | [] => s
  | msg :: rest =>
    let s1 := s.setPath { s.path with marks := rest }
    if msg.isVoid then s1
    else
      let s2 := s1.setPfu { s1.pfu with marks := s1.pfu.marks.erase msg.mark }
      s2.setRw { s2.rw with segs := s2.rw.segs.map (Segment.applyMark msg.mark) }

/-! ### Emptying the window -/

/-- Every mark on its way made void (R15). -/
def voidMarks (p : Path) : Path := { p with marks := p.marks.map fun m => { m with isVoid := true } }

/-- Every correction on its way made void (R68). -/
def voidCorrections (p : Path) : Path := { p with corrections := p.corrections.map fun c => { c with isVoid := true } }

/-- The Position Fix Unit's part in a closing of the route (R87): UNPLACED, miss count 0 with BEACON_MISSED reported
inactive if it stood at 2 or more, marks in flight discarded; U and the last correction stay. -/
def unplace (s : State) : State :=
  let s1 := s.setPfu { s.pfu with conf := .unplaced, miss := 0, missTold := false, marks := [] }
  if Config.missLimit ≤ s.pfu.miss then reportInactive .beaconMissed .none s1 else s1

/-- The window in the state of R26, every mark on its way void, and the Position Fix Unit UNPLACED, the change reported
(R23, R27, R87). -/
def closeWindow (s : State) : State :=
  reportRoute (unplace ((s.setRw Rw.reset).setPath (voidMarks s.path)))

/-! ### OPEN_ROUTE (R16 to R18) -/

/-- Every field of OPEN_ROUTE lies in its range (R16, R209). -/
def openRouteInRange (f : OpenRouteFields) : Bool :=
  (leadOf f.lead).isSome && f.r0 ≤ Config.distanceMax && f.firstIndex ≤ 65535 && f.rRef ≤ Config.distanceMax &&
    f.u0 ≤ 65535

/-- PLACED when the uncertainty in mm is not greater than U_max, DRIFTED otherwise (R72). -/
def confidenceFor (t : ConfigTable) (uMm : Nat) : Confidence := if uMm ≤ t.uMax then .placed else .drifted

/-- Every channel's carried curvature negated (R37). -/
def negateCarried (ss : Quad SsRec) : Quad SsRec :=
  Quad.build fun k => { ss.get k with carried := -(ss.get k).carried }

/-- An accepted OPEN_ROUTE (R17, R18, R37, R69, R87). DESIGN CHOICE (log 10): the inactive reports come before the report of the
route-open flag and the confidence, whose derivation may raise HORIZON_SHORTFALL. -/
def openRoute (f : OpenRouteFields) (lead : VehicleEnd) (s : State) : State :=
  let s1 := s.setRw { isOpen := true, lead := lead, rear := f.r0, front := f.r0, next := f.firstIndex, segs := [],
                      horizonLow := false }
  let s2 := s1.setOdo { s1.odo with r := f.rRef * 1000 }
  let s3 := s2.setPfu { s2.pfu with conf := confidenceFor s2.ct.table f.u0, u := f.u0 * 1000, miss := 0, missTold := false,
                                    marks := [] }
  let s4 := s3.setPath (voidCorrections (voidMarks s3.path))
  let s5 := if s.rw.lead = lead then s4 else s4.setSs (negateCarried s4.ss)
  let s6 := reportInactive .positionConflict .none s5
  let s7 := if Config.missLimit ≤ s.pfu.miss then reportInactive .beaconMissed .none s6 else s6
  reportRoute s7

/-- The reply items of the route requests: next expected index and count (section 12.3). -/
def windowItems (s : State) : List Byte := beBytes 2 s.rw.next ++ beBytes 1 s.rw.segs.length

/-- The Route Window takes OPEN_ROUTE (R16). -/
def takeOpenRoute (m : Master) (f : OpenRouteFields) (s : State) : Taken :=
  if !holds s m then .refuse s .notHolder
  else if !atStandstill s then .refuse s .notStandstill
  else if !openRouteInRange f then .refuse s .badValue
  else
    match leadOf f.lead with
    | none => .refuse s .badValue
    | some lead => let s' := openRoute f lead s; ⟨s', .ok, windowItems s'⟩

/-! ### APPEND_SEGMENT (R19 to R22) -/

/-- The window with a record appended at its front (R21). -/
def Rw.append (rw : Rw) (g : Segment) : Rw :=
  { rw with segs := rw.segs ++ [g], front := rw.front + g.length, next := (g.index + 1) % Config.wrap16 }

/-- The Route Window takes APPEND_SEGMENT (R19); every reply of its own carries next expected index and count. -/
def takeAppendSegment (m : Master) (f : SegmentFields) (s : State) : Taken :=
  if !holds s m then ⟨s, .notHolder, windowItems s⟩
  else if !s.rw.isOpen then ⟨s, .noRoute, windowItems s⟩
  else if f.index ≠ s.rw.next then ⟨s, .outOfOrder, windowItems s⟩
  else if Config.windowCapacity ≤ s.rw.segs.length then ⟨s, .windowFull, windowItems s⟩
  else
    match segmentOf f s.rw.front with
    | none => ⟨s, .badValue, windowItems s⟩
    | some g => let s' := s.setRw (s.rw.append g); ⟨s', .ok, windowItems s'⟩

/-! ### CLOSE_ROUTE (R23) -/

/-- The Route Window takes CLOSE_ROUTE: with a route open the window is emptied, the confidence becomes UNPLACED, and every
fitted channel in RELEASING, TRACKING or HOLDING is sent to CENTRING. -/
def takeCloseRoute (m : Master) (s : State) : Taken :=
  if !holds s m then .refuse s .notHolder
  else if !s.rw.isOpen then ⟨s, .ok, []⟩
  else ⟨centringOrders (closeWindow s), .ok, []⟩

end Sys2Proof.Machine
end

