-- ==== Sys2Proof/Machine/Odometer.lean ====
section
/-! DEFINITION. The Odometer (chapter 3): tacho counts, reference speed, the closing of a frame, standstill, and position
corrections. -/

namespace Sys2Proof.Machine

/-! ### Tacho counts (R55, R211) -/

/-- The step of a tacho edge: positive when signal A leads signal B, that is when A changes to differ from B, or B changes
to agree with A (R211). -/
def TachoEdge.step (e : TachoEdge) : Int :=
  match e.signal with
  | .a => if e.levelA ≠ e.levelB then 1 else -1
  | .b => if e.levelA = e.levelB then 1 else -1

/-- TACHO_COUNT: the accumulator adds the decoded count, whatever the tacho's state (R55); no edge is counted in SLEEP
(R192). -/
def tachoCount (t : Tacho) (e : TachoEdge) (s : State) : State :=
  if s.ct.mode = .sleep then s
  else s.setOdo { s.odo with acc := s.odo.acc.set t (s.odo.acc.get t + TachoEdge.step e) }

/-- A count held to magnitude 127 with its own sign (R55). -/
def saturate (count : Int) : Int := clamp count (-(Config.countMax : Int)) Config.countMax

/-- The count's magnitude exceeds 127: the tacho is saturated for the frame (R55). -/
def isSaturated (count : Int) : Bool := Config.countMax < count.natAbs

/-! ### Reference speed (R57, R58) -/

/-- The Odometer takes SPEED_REFERENCE (R57). -/
def takeSpeedReference (m : Master) (v : Int) (flags : Nat) (s : State) : Taken :=
  if m = .brake then
    let ref : SpeedRef :=
      { v := clamp v (-Config.refSpeedMax) Config.refSpeedMax, braking := flags % 2 == 1, traction := flags / 2 % 2 == 1,
        slide := flags / 4 % 2 == 1, spin := flags / 8 % 2 == 1, age := 0, stale := false }
    ⟨s.setOdo { s.odo with ref := some ref }, .ok, []⟩
  else .refuse s .notPermitted

/-- The reference as the expiry of a frame judges it: the rest of the closed frame's time added to its age (log 5), and
stale once it is older than the reference hold time. A stale reference stays so, whatever the hold time then is, until a new
one is taken (R58). DEDUCED (log 26): it becomes stale at the expiry that judges it. -/
def judgeRef (hold rest : Nat) (ref : Option SpeedRef) : Option SpeedRef :=
  ref.map fun r => { r with age := r.age + rest, stale := r.stale || decide (msToBitTimes hold < r.age + rest) }

/-- The stored reference, if the expiry has judged it fresh (R58). -/
def freshRef (ref : Option SpeedRef) : Option SpeedRef := ref.filter fun r => !r.stale

/-- The frame's slide-or-spin flag (R58). -/
def slipFlag (fresh : Option SpeedRef) : Bool :=
  match fresh with
  | none => false
  | some r => r.slide || r.spin

/-! ### Motion in a frame (R59 to R61) -/

/-- The case of R59 that decides a frame. -/
inductive MotionCase where
  | c1 | c2 | c3 | c4 | c5 | c6a | c6b
  deriving DecidableEq, Repr

/-- What a closed frame is judged by: the counts as they stood, the tacho states, the fresh reference, the pulse lengths
and the interval the frame ran. -/
structure FrameInput where
  count : Duo Int
  tacho : Duo TachoState
  fresh : Option SpeedRef
  lambda : Duo Nat
  interval : Nat
  deriving DecidableEq, Repr

/-- The vehicle-frame distance of a tacho for the frame (R56). -/
def FrameInput.distance (i : FrameInput) (t : Tacho) : Int := saturate (i.count.get t) * i.lambda.get t

/-- The two distances agree (R59 case 2). -/
def FrameInput.agrees (i : FrameInput) : Bool :=
  (i.distance .t1 - i.distance .t2).natAbs ≤
    2 * max i.lambda.t1 i.lambda.t2 + max (i.distance .t1).natAbs (i.distance .t2).natAbs / 16

/-- The first case of R59 that holds. -/
def FrameInput.case (i : FrameInput) : MotionCase :=
  let w1 := i.tacho.t1 == .working
  let w2 := i.tacho.t2 == .working
  let s1 := isSaturated i.count.t1
  let s2 := isSaturated i.count.t2
  if slipFlag i.fresh then .c1
  else if w1 && w2 && !s1 && !s2 && i.agrees then .c2
  else if w1 && w2 && (!s1 || !s2) then .c3
  else if w1 != w2 then .c4
  else if w1 && w2 then .c5
  else if i.fresh.isSome then .c6a
  else .c6b

/-- The distance of smaller magnitude; tacho 1's where the magnitudes are equal (R60). -/
def smaller (e1 e2 : Int) : Int := if e2.natAbs < e1.natAbs then e2 else e1

/-- The distance of larger magnitude; tacho 1's where the magnitudes are equal (R60). -/
def larger (e1 e2 : Int) : Int := if e1.natAbs < e2.natAbs then e2 else e1

/-- The reference's distance over the frame: mm/s times ms gives µm (R59). -/
def refDistance (fresh : Option SpeedRef) (interval : Nat) : Int :=
  match fresh with
  | none => 0
  | some r => r.v * interval

/-- The reference flags braking (R60). -/
def flagsBraking (fresh : Option SpeedRef) : Bool :=
  match fresh with
  | none => false
  | some r => r.braking

/-- The vehicle-frame motion of the closed frame (R59, R60). -/
def FrameInput.motion (i : FrameInput) : Int :=
  let e1 := i.distance .t1
  let e2 := i.distance .t2
  match i.case with
  | .c1 => refDistance i.fresh i.interval
  | .c2 => trunc (e1 + e2) 2
  | .c3 =>
    if isSaturated i.count.t1 then e2
    else if isSaturated i.count.t2 then e1
    else if flagsBraking i.fresh then larger e1 e2
    else smaller e1 e2
  | .c4 => if i.tacho.t1 = .working then e1 else e2
  | .c5 => smaller e1 e2
  | .c6a => refDistance i.fresh i.interval
  | .c6b => 0

/-- The quality of the closed frame (R59). -/
def MotionCase.quality : MotionCase → Quality
  | .c1 => .reference
  | .c2 => .agreed
  | .c3 => .single
  | .c4 => .single
  | .c5 => .single
  | .c6a => .reference
  | .c6b => .none

/-- Motion in the route sense (R61). -/
def routeSense (lead : VehicleEnd) (e : Int) : Int :=
  match lead with
  | .a => e
  | .b => -e

/-! ### Watching the tachos (R62 to R64) -/

/-- The other tacho. -/
def Tacho.other : Tacho → Tacho
  | .t1 => .t2
  | .t2 => .t1

/-- The failure check of a WORKING tacho holds for the frame (R62). -/
def FrameInput.failureCheck (i : FrameInput) (t : Tacho) : Bool :=
  i.count.get t == 0 &&
    (match i.tacho.get (Tacho.other t) with
     | .working => 3 ≤ (i.count.get (Tacho.other t)).natAbs
     | .failed => i.fresh.isSome && 3 * i.lambda.get t ≤ (refDistance i.fresh i.interval).natAbs)

/-- A tacho's failure streak after the frame (R62). -/
def FrameInput.failureStreak (i : FrameInput) (t : Tacho) (streak : Nat) : Nat :=
  match i.tacho.get t with
  | .failed => streak
  | .working => if i.failureCheck t then streak + 1 else 0

/-- TACHO_FAILED (R62): a WORKING tacho whose failure streak stands at 25 becomes FAILED, its streak 0, and the fault is
reported. -/
def tachoFailed (t : Tacho) (s : State) : State :=
  if s.odo.tacho.get t = .working ∧ Config.failureLimit ≤ s.odo.failure.get t then
    raiseFault .tachoFailed (.tacho t)
      (s.setOdo { s.odo with tacho := s.odo.tacho.set t .failed, failure := s.odo.failure.set t 0 })
  else s

/-- The disagreement streak after a frame of this case (R64). -/
def disagreeAfter (c : MotionCase) (n : Nat) : Nat :=
  match c with
  | .c1 => n
  | .c2 => 0
  | .c3 => min (n + 1) Config.streakLimit
  | _ => 0

/-- The agreement streak after a frame of this case (R64). -/
def agreeAfter (c : MotionCase) (n : Nat) : Nat :=
  match c with
  | .c1 => n
  | .c2 => min (n + 1) Config.streakLimit
  | _ => 0

/-- TACHO_DISAGREE (R64): a disagreement streak that stands at 50 and has not been reported is reported, once; while it
stands the Odometer is silent, whatever the Supervisor did with the report (R200). -/
def tachoDisagree (s : State) : State :=
  if Config.streakLimit ≤ s.odo.disagree ∧ s.odo.disagreeTold = false then
    raiseFault .tachoDisagree .none (s.setOdo { s.odo with disagreeTold := true })
  else s

/-- TACHO_AGREEMENT_REACHED: the agreement streak stands at 50, and the TACHO_DISAGREE record is reported inactive
(R64). -/
def tachoAgreementReached (s : State) : State :=
  if Config.streakLimit ≤ s.odo.agree then reportInactive .tachoDisagree .none s else s

/-- The reports of a frame's streaks, made when a streak reaches 50 from below (R64). -/
def streakReports (agreeBefore : Nat) (s : State) : State :=
  if agreeBefore < Config.streakLimit then tachoAgreementReached (tachoDisagree s) else tachoDisagree s

/-! ### Standstill (R65, R66) -/

/-- Some tacho is WORKING. -/
def someWorking (tacho : Duo TachoState) : Bool := tacho.t1 == .working || tacho.t2 == .working

/-- The closed frame is quiet (R65). -/
def FrameInput.quiet (i : FrameInput) : Bool :=
  (i.tacho.t1 == .failed || i.count.t1 == 0) && (i.tacho.t2 == .failed || i.count.t2 == 0) &&
    (match i.fresh with
     | none => true
     | some r => r.v == 0)

/-- STANDSTILL_REACHED (R65): with a WORKING tacho, MOVING becomes STANDSTILL when the quiet time is at least the
standstill time. -/
def standstillReached (s : State) : State :=
  if someWorking s.odo.tacho ∧ s.odo.standstill = .moving ∧ s.ct.table.standstillTime ≤ s.odo.quiet then
    s.setOdo { s.odo with standstill := .standstill }
  else s

/-- The standstill decision of a closed frame (R65). -/
def decideStandstill (i : FrameInput) (s : State) : State :=
  if someWorking i.tacho then
    if i.quiet then
      let s1 := s.setOdo { s.odo with quiet := min (s.odo.quiet + i.interval) Config.quietMax }
      if s.ct.table.standstillTime ≤ s1.odo.quiet then s1.setOdo { s1.odo with standstill := .standstill } else s1
    else s.setOdo { s.odo with quiet := 0, standstill := .moving }
  else
    match i.fresh with
    | some r =>
      if r.v = 0 then s.setOdo { s.odo with standstill := .standstill }
      else s.setOdo { s.odo with quiet := 0, standstill := .moving }
    | none => s.setOdo { s.odo with quiet := 0, standstill := .moving }

/-- The withdrawal of a standing offer when STANDSTILL has become MOVING (R66, R155). -/
def withdrawOffer (s : State) : State :=
  match s.aa.auth with
  | .offered m _ => s.setAa { s.aa with auth := .held m, offer := none }
  | _ => s

/-! ### The closing of a frame (R53, R54, R67) -/

/-- The closing of a frame that ran on this timer: the timer reloads with the interval configured (R53), the frame number
increments (R54), the counts are taken (R55), motion and quality are formed (R59 to R61), the tachos watched (R62, R64),
standstill decided and reported (R65, R66), and the position sample sent (R67). DESIGN CHOICE (log 10): where one expiry
brings both TACHO_FAILED and TACHO_DISAGREE, TACHO_FAILED is reported first. -/
def closeFrame (ft : FrameTimer) (s : State) : State :=
  let ref := judgeRef s.ct.table.refHold (msToBitTimes ft.interval - ft.elapsed) s.odo.ref
  let i : FrameInput :=
    { count := s.odo.acc, tacho := s.odo.tacho, fresh := freshRef ref, lambda := s.ct.table.lambda,
      interval := ft.interval }
  let d := routeSense s.rw.lead i.motion
  let s1 := s.setOdo { s.odo with
    timer := some ⟨s.ct.table.frameInterval, 0⟩
    frameNo := (s.odo.frameNo + 1) % Config.wrap16
    acc := ⟨0, 0⟩
    failure := ⟨i.failureStreak .t1 s.odo.failure.t1, i.failureStreak .t2 s.odo.failure.t2⟩
    disagree := disagreeAfter i.case s.odo.disagree
    disagreeTold := s.odo.disagreeTold && Config.streakLimit ≤ disagreeAfter i.case s.odo.disagree
    agree := agreeAfter i.case s.odo.agree
    r := holdTo Config.routeEnd (s.odo.r + d)
    d := d
    quality := i.case.quality
    lastInterval := ft.interval
    ref := ref }
  let s2 := tachoFailed .t2 (tachoFailed .t1 s1)
  let s3 := streakReports s.odo.agree s2
  let s4 := decideStandstill i s3
  let s5 := if s.odo.standstill = .standstill ∧ s4.odo.standstill = .moving then withdrawOffer s4 else s4
  s5.setPath { s5.path with atPfu := s5.path.atPfu ++
    [{ r := s5.odo.r, d := d, quality := i.case.quality, standstill := s5.odo.standstill, slip := slipFlag i.fresh }] }

/-- FRAME_TIMER_EXPIRY: the running frame timer expires; a stopped one does not (R53, R70). -/
def frameTimerExpiry (s : State) : State :=
  match s.odo.timer with
  | none => s
  | some ft => closeFrame ft s

/-! ### Corrections (R68) -/

/-- POSITION_CORRECTION: the oldest correction on its way arrives. r becomes (r_ref + c) × 1,000 µm, held to its range; a
correction made void by a PLACE or OPEN_ROUTE is discarded. -/
def positionCorrection (s : State) : State :=
  match s.path.corrections with
  | [] => s
  | c :: rest =>
    let s1 := s.setPath { s.path with corrections := rest }
    if c.isVoid then s1
    else s1.setOdo { s1.odo with r := holdTo Config.routeEnd ((wholeMm s1.odo.r + c.c) * 1000) }

end Sys2Proof.Machine
end

