-- ==== Sys2Proof/Machine/PositionFix.lean ====
section
/-! DEFINITION. The Position Fix Unit (chapter 4): the position sample, beacon telegrams, and PLACE. -/

namespace Sys2Proof.Machine

/-! ### Reader and capture region (R76) -/

/-- The reader position for a reference position in whole mm (R76). -/
def readerPosition (s : State) (rRef : Nat) : Int := alongRoute s.rw.lead rRef s.ct.table.readerOffset

/-- The capture half-width for an uncertainty in µm (R76). -/
def captureHalfWidth (u : Nat) : Nat := wholeMm u + Config.captureMargin

/-- The uncertainty with an increment, stopping at its maximum (R71). -/
def growBy (u inc : Nat) : Nat := min (u + inc) Config.uncertaintyMax

/-- The increment of U for a sample (R75). -/
def growth (quality : Quality) (d : Int) (drift interval : Nat) : Nat :=
  match quality with
  | .agreed => d.natAbs * drift / 1000
  | .single => 2 * (d.natAbs * drift / 1000)
  | .reference => 2 * (d.natAbs * drift / 1000)
  | .none => 2 * interval * 1000

/-! ### Marks in flight (R77, R79) -/

/-- A beacon's status with the Position Fix Unit's own marks in flight applied. -/
def statusWithMarks (marks : List Mark) (b : BeaconAt) : BeaconStatus :=
  match marks.find? fun m => m.index == b.index with
  | none => b.status
  | some m => if b.status = .pending then m.status else b.status

/-- The beacons of the window as the Position Fix Unit sees them, its own marks in flight applied. -/
def beaconsSeen (s : State) : List BeaconAt :=
  s.rw.beacons.map fun b => { b with status := statusWithMarks s.pfu.marks b }

/-- A mark decided: it is sent to the Route Window and added to the marks in flight (R77, R80). -/
def sendMark (m : Mark) (s : State) : State :=
  (s.setPfu { s.pfu with marks := s.pfu.marks ++ [m] }).setPath { s.path with marks := s.path.marks ++ [⟨m, false⟩] }

/-! ### The position sample at the Position Fix Unit (R73 to R78) -/

/-- BEACON_MISSED (R78): a miss count that stands at 2 or more and has not been reported is reported, once; a count that
goes on rising makes no further report, whatever the Supervisor did with the first (R200). -/
def beaconMissed (s : State) : State :=
  if Config.missLimit ≤ s.pfu.miss ∧ s.pfu.missTold = false then
    raiseFault .beaconMissed .none (s.setPfu { s.pfu with missTold := true })
  else s

/-- One beacon marked MISSED, with its penalty (R77, R78). -/
def missBeacon (s : State) (b : BeaconAt) : State :=
  let s1 := sendMark ⟨b.index, .missed⟩ s
  beaconMissed
    (s1.setPfu { s1.pfu with u := growBy s1.pfu.u Config.missPenalty, miss := min (s1.pfu.miss + 1) Config.missMax })

/-- The confidence test that ends the handling of a sample (R73). -/
def driftTest (s : State) : State :=
  if s.pfu.conf = .placed ∧ s.ct.table.uMax * 1000 < s.pfu.u then
    reportRoute (s.setPfu { s.pfu with conf := .drifted })
  else s

/-- The Position Fix Unit's handling of a sample with confidence PLACED or DRIFTED (R74). DESIGN CHOICE (log 29): T of R75 is
the Odometer's last interval as it stands at this moment, that of a later frame where one has closed since the sample's. -/
def pfuHandles (sample : Sample) (s : State) : State :=
  let inc := growth sample.quality sample.d s.ct.table.drift s.odo.lastInterval
  let s1 := s.setPfu { s.pfu with u := growBy s.pfu.u inc }
  let reader := readerPosition s1 (wholeMm sample.r)
  let width := captureHalfWidth s1.pfu.u
  let missed := (beaconsSeen s1).filter fun b => b.status == .pending && ((b.distance : Int) + width < reader)
  driftTest (missed.foldl missBeacon s1)

/-- SAMPLE_AT_PFU: the oldest sample sent by the Odometer arrives; with none on its way nothing happens (log 6). The sample
is passed on to the Route Window unchanged (R74). -/
def sampleAtPfu (s : State) : State :=
  match s.path.atPfu with
  | [] => s
  | sample :: rest =>
    let s1 := s.setPath { s.path with atPfu := rest }
    let s2 := if s1.pfu.conf = .unplaced then s1 else pfuHandles sample s1
    s2.setPath { s2.path with atRw := s2.path.atRw ++ [sample] }

/-! ### Beacon telegrams (R79 to R83) -/

/-- The nearest of the candidates to the reader, the rearmost where two are equally near (R80). -/
def nearest (reader : Int) : List BeaconAt → Option BeaconAt
  | [] => none
  | b :: bs =>
    match nearest reader bs with
    | none => some b
    | some c => if ((c.distance : Int) - reader).natAbs < ((b.distance : Int) - reader).natAbs then some c else some b

/-- The match of a telegram with a beacon (R80). DESIGN CHOICE (log 10): the inactive reports come before the confidence
report, whose derivation may raise HORIZON_SHORTFALL. -/
def matchBeacon (reader : Int) (b : BeaconAt) (s : State) : State :=
  let c := (b.distance : Int) - reader
  let s1 := sendMark ⟨b.index, .matched⟩ s
  let s2 := s1.setPath { s1.path with corrections := s1.path.corrections ++ [⟨c, false⟩] }
  let s3 := s2.setPfu { s2.pfu with conf := .placed, u := s.ct.table.uFix * 1000, miss := 0, missTold := false,
                                    lastCorrection := some c }
  let s4 := if Config.missLimit ≤ s.pfu.miss then reportInactive .beaconMissed .none s3 else s3
  reportRoute (reportInactive .positionConflict .none s4)

/-- The conflict of a telegram with the window (R83). DESIGN CHOICE (log 10): the confidence is reported, and with it an end of
HORIZON_SHORTFALL, before POSITION_CONFLICT is raised. -/
def conflict (s : State) : State :=
  let s1 := reportRoute (s.setPfu { s.pfu with conf := .drifted })
  raiseFault .positionConflict .none s1

/-- BEACON_TELEGRAM (R79): ignored with a bad check or in UNPLACED; otherwise a match, a repeat, a conflict or unknown, by
the first that holds. -/
def beaconTelegram (id : Nat) (checkGood : Bool) (s : State) : State :=
  if !checkGood || s.pfu.conf == .unplaced then s
  else
    let reader := readerPosition s (wholeMm s.odo.r)
    let width := captureHalfWidth s.pfu.u
    let list := (beaconsSeen s).filter fun b => b.id == id
    let near (bound : Nat) (st : BeaconStatus) (b : BeaconAt) : Bool :=
      b.status == st && ((b.distance : Int) - reader).natAbs ≤ bound
    match nearest reader (list.filter (near width .pending)) with
    | some b => matchBeacon reader b s
    | none =>
      if list.any (near Config.repeatBound .matched) then s
      else if list.isEmpty then s
      else conflict s

/-! ### PLACE (R85, R86) -/

/-- An accepted PLACE (R69, R86). DESIGN CHOICE (log 10): the inactive report comes before the confidence report, whose
derivation may raise HORIZON_SHORTFALL. -/
def place (rRef u : Nat) (s : State) : State :=
  let s1 := s.setOdo { s.odo with r := rRef * 1000 }
  let s2 := s1.setPfu { s1.pfu with u := u * 1000, conf := confidenceFor s1.ct.table u }
  let s3 := s2.setPath (voidCorrections s2.path)
  reportRoute (reportInactive .positionConflict .none s3)

/-- The Position Fix Unit takes PLACE (R85). -/
def takePlace (m : Master) (rRef u : Nat) (s : State) : Taken :=
  if !holds s m then .refuse s .notHolder
  else if !s.rw.isOpen then .refuse s .noRoute
  else if !(rRef ≤ Config.distanceMax && u ≤ 65535) then .refuse s .badValue
  else ⟨place rRef u s, .ok, []⟩

end Sys2Proof.Machine
end

