-- ==== Sys2Proof/Machine/Schedule.lean ====
section
/-! DEFINITION. The Steering Schedule (chapter 2): from a hand-over of the Route Window to one target delivery for each
fitted channel. -/

namespace Sys2Proof.Machine

/-! ### Curvature (R31, R33 to R36, R39, R40) -/

/-- The sign factor of a channel (R31). -/
def signFactor (k : Chan) (lead : VehicleEnd) : Int :=
  match lead with
  | .a => if k.isASide then 1 else -1
  | .b => if k.isASide then -1 else 1

/-- The curvature at a point inside its covering record (R39, R40). -/
def Covering.curvature (c : Covering) (x : Int) : Int :=
  match c.geo with
  | .straight => 0
  | .arc κ => κ
  | .junction κ _ => κ
  | .spiral κ κ' => κ + trunc ((κ' - κ) * (x - c.start)) c.length

/-- The window's answer for one channel: no points and both lookups *outside* while no route was open (R24, R47), and the
same for a channel that was not fitted when the window took the sample (log 13). -/
def HandEntry.points : HandEntry → Option Points
  | .notFitted => none
  | .noRoute => none
  | .formed p => some p

/-- A channel's record after a sample, with the curvature used for it (R34 to R36). -/
structure Chosen where
  record : SsRec
  curvature : Int
  deriving DecidableEq, Repr

/-- The counting of a sample without a window answer (R35, R36). -/
def SsRec.carryOn (old : SsRec) (carryLimit : Nat) (look : Option Int) : Chosen :=
  let n := min (old.carry + 1) Config.carryMax
  if old.source ≠ .decaying ∧ n ≤ carryLimit then
    ⟨{ old with source := .carried, carry := n, look := look }, old.carried⟩
  else ⟨{ old with source := .decaying, carry := n, look := look }, 0⟩

/-- The first case of R33 that holds; `served` says that the route is open and the confidence PLACED. -/
def SsRec.choose (old : SsRec) (served isOpen : Bool) (carryLimit : Nat) (pts : Option Points) : Chosen :=
  let look : Option Int := if isOpen then pts.map (·.q) else none
  match served, pts with
  | true, some ⟨_, q, some _, some atQ⟩ =>
    let κ := atQ.curvature q
    ⟨{ source := .fromWindow, carried := κ, carry := 0, look := some q }, κ⟩
  | true, some ⟨p, _, some atP, none⟩ =>
    let κ := atP.curvature p
    ⟨{ source := .fromWindowShort, carried := κ, carry := 0, look := some p }, κ⟩
  | _, _ => old.carryOn carryLimit look

/-! ### From curvature to target (R41 to R44) -/

/-- The geometric angle (R41). -/
def geometricAngle (σ : Int) (lever : Nat) (κ : Int) : Int := σ * roundHalfAway (lever * κ) 100000

/-- The effective gain (R42, R48). -/
def effectiveGain (gain slideGain : Nat) (slip : Bool) : Nat := if slip then min gain slideGain else gain

/-- The gain-scaled angle (R42). -/
def gainScaled (ψ : Int) (gain : Nat) : Int := roundHalfAway (ψ * gain) 100

/-- A limit under the junction cap of a covering record (R43). -/
def capLimit (lim : Nat) (c : Option Covering) : Nat :=
  match c with
  | some ⟨_, _, .junction _ cap⟩ => min lim cap
  | _ => lim

/-- The limit of a channel for a sample: its angle limit, with the junction caps of the record at q and of the record at p
under FROM_WINDOW, of the record at p alone under FROM_WINDOW-short, and none otherwise (R43). -/
def angleLimitFor (source : Source) (limit : Nat) (pts : Option Points) : Nat :=
  match source, pts with
  | .fromWindow, some p => capLimit (capLimit limit p.atQ) p.atP
  | .fromWindowShort, some p => capLimit limit p.atP
  | _, _ => limit

/-- The slew from the current target toward the limited angle (R44). -/
def slewToward (θ ψ : Int) (step : Nat) : Int := θ + clamp (ψ - θ) (-(step : Int)) step

/-- The new target of a channel for a sample, from its curvature and source (R41 to R44). -/
def newTarget (s : State) (k : Chan) (slip : Bool) (source : Source) (κ : Int) (pts : Option Points) : Int :=
  let cfg := s.ct.table.chan.get k
  let ψgeo := geometricAngle (signFactor k s.rw.lead) cfg.lever κ
  let ψg := gainScaled ψgeo (effectiveGain s.ct.gain s.ct.table.slideGain slip)
  let lim := angleLimitFor source cfg.angleLimit pts
  slewToward (s.ac.get k).theta (clamp ψg (-(lim : Int)) lim) cfg.slew

/-! ### The sample at the schedule (R30, R38, R45, R50) -/

/-- The curvature chosen for a channel, with the route-open flag and the confidence as they stand (R33). -/
def chosenFor (s : State) (k : Chan) (entry : HandEntry) : Chosen :=
  (s.ss.get k).choose (s.rw.isOpen && s.pfu.conf == .placed) s.rw.isOpen s.ct.table.carryLimit entry.points

/-- The schedule's computation and delivery for one channel, if it is fitted now: its record, its source report, its
delivery (R29, R30, R45, R50). -/
def scheduleChannel (sample : Sample) (entry : HandEntry) (k : Chan) (s : State) : State :=
  if fitted s k then
    let chosen := chosenFor s k entry
    let θ := newTarget s k sample.slip chosen.record.source chosen.curvature entry.points
    deliver k θ (reportSource k (s.setSs (s.ss.set k chosen.record)))
  else s

/-- The schedule's handling of a hand-over, channel by channel (log 9). -/
def scheduleTakes (h : HandOver) (s : State) : State :=
  scheduleChannel h.sample h.entries.c4 .c4
    (scheduleChannel h.sample h.entries.c3 .c3
      (scheduleChannel h.sample h.entries.c2 .c2
        (scheduleChannel h.sample h.entries.c1 .c1 s)))

/-- The limits as configured, taken for the sample that arrives now: every counter and lock timer that it increments
compares with them (R49, R122, R185). -/
def useLimits (s : State) : State :=
  s.setCt { s.ct with used := ⟨s.ct.table.lockTime, s.ct.table.carryLimit⟩ }

/-- SAMPLE_AT_SS: the oldest hand-over on its way to the schedule arrives; with none on its way nothing happens
(log 6). -/
def sampleAtSs (s : State) : State :=
  match s.path.atSs with
  | [] => s
  | h :: rest => scheduleTakes h (useLimits (s.setPath { s.path with atSs := rest }))

/-- CARRY_LIMIT_EXCEEDED standing alone: a CARRIED channel whose carry counter exceeds the carry limit becomes DECAYING,
and the change is reported (R36, R38, log 2). A limit lowered since the last sample is compared with at the next one (R49). -/
def carryLimitExceeded (k : Chan) (s : State) : State :=
  let old := s.ss.get k
  if fitted s k ∧ old.source = .carried ∧ s.ct.used.carryLimit < old.carry then
    reportSource k (s.setSs (s.ss.set k { old with source := .decaying }))
  else s

end Sys2Proof.Machine
end

