-- ==== Sys2Proof/Machine/ChannelRequests.lean ====
section
/-! DEFINITION. The requests the actuator channels own: UNLOCK, CENTRE_ALL and CALIBRATE (chapter 5). -/

namespace Sys2Proof.Machine

/-- The channels take UNLOCK, with the checks of R104 in order; the reply carries the set of channels that entered
RELEASING. -/
def takeUnlock (m : Master) (s : State) : Taken :=
  if !holds s m then .refuse s .notHolder
  else if !s.rw.isOpen then .refuse s .noRoute
  else if s.pfu.conf != .placed then .refuse s .notPlaced
  else if s.sv.latch then .refuse s .isolated
  else if channelSet (qualifies s) = 0 then .refuse s .wrongState
  else ⟨releaseAll s, .ok, beBytes 1 (channelSet (qualifies s))⟩

/-- The channel is sent to CENTRING by a CENTRE_ALL: fitted, and in RELEASING, TRACKING or HOLDING (R114). -/
def centres (s : State) (k : Chan) : Bool := fitted s k && isReleased s k

/-- The channels take CENTRE_ALL (R114); it acts on each channel as a centring order does (R128). -/
def takeCentreAll (m : Master) (s : State) : Taken :=
  if !holds s m then .refuse s .notHolder
  else ⟨centringOrders s, .ok, beBytes 1 (channelSet (centres s))⟩

/-- The channels take CALIBRATE, with the checks of R121 in order. -/
def takeCalibrate (m : Master) (channel : Nat) (s : State) : Taken :=
  if !holds s m then .refuse s .notHolder
  else
    match chanOf channel with
    | none => .refuse s .badValue
    | some k =>
      if !atStandstill s then .refuse s .notStandstill
      else if !(fitted s k && (s.ac.get k).state == .locked) then .refuse s .wrongState
      else ⟨commit k ⟨(s.ac.get k).toHoming, []⟩ s, .ok, []⟩

end Sys2Proof.Machine
end

