-- ==== Sys2Proof/Machine/Arbiter.lean ====
section
/-! DEFINITION. The Authority Arbiter (chapter 7): presence, the authority requests, and the two kinds of timer expiry. -/

namespace Sys2Proof.Machine

/-! ### Presence (R144 to R146) -/

/-- The presence record of a master; the brake controller has none. -/
def Aa.presence (a : Aa) : Master → Option Presence
  | .cabA => some a.p1
  | .cabB => some a.p2
  | .brake => none
  | .maint => some a.p4

/-- The Arbiter with a master's presence record replaced; nothing for the brake controller. -/
def Aa.setPresence (a : Aa) (m : Master) (p : Presence) : Aa :=
  match m with
  | .cabA => { a with p1 := p }
  | .cabB => { a with p2 := p }
  | .brake => a
  | .maint => { a with p4 := p }

/-- The master is PRESENT. -/
def Aa.isPresent (a : Aa) (m : Master) : Bool :=
  match a.presence m with
  | none => false
  | some p => p.state == .present

/-- The presence reload at the acceptance of a master's frame: the timer starts from 0 with the presence timeout as
configured, and the master is PRESENT (R145). -/
def presenceReload (m : Master) (s : State) : State :=
  s.setAa (s.aa.setPresence m ⟨.present, some ⟨s.ct.table.presenceTimeout, 0⟩⟩)

/-- What the silence of a master does to the authority state: an offer to it lapses (R156), and authority it held becomes
VACANT, with HOLDER_SILENT reported (R157). -/
def silence (m : Master) (s : State) : State :=
  if s.aa.auth.heldBy m then
    raiseFault .holderSilent .none (s.setAa { s.aa with auth := .vacant, offer := none })
  else
    match s.aa.auth with
    | .offered h n => if n = m then s.setAa { s.aa with auth := .held h, offer := none } else s
    | _ => s

/-- PRESENCE_TIMER_EXPIRY (R146): the running presence timer of a master expires. The master becomes SILENT and its timer
idle, and the Arbiter takes the silence. An idle timer, as in SLEEP, does not expire. -/
def presenceExpiry (m : Master) (s : State) : State :=
  match s.aa.presence m with
  | some ⟨_, some _⟩ => silence m (s.setAa (s.aa.setPresence m ⟨.silent, none⟩))
  | _ => s

/-- OFFER_TIMER_EXPIRY (R154): the running offer timer expires, and the state returns to HELD by the offering holder. -/
def offerExpiry (s : State) : State :=
  match s.aa.auth, s.aa.offer with
  | .offered m _, some _ => s.setAa { s.aa with auth := .held m, offer := none }
  | _, _ => s

/-! ### The authority requests -/

/-- The Arbiter takes CLAIM, by the first row of R148 that holds; a claim that finds VACANT reports HOLDER_SILENT
inactive (R158). -/
def takeClaim (m : Master) (s : State) : Taken :=
  if m = .brake then .refuse s .notPermitted
  else if holds s m then ⟨s, .ok, []⟩
  else if s.aa.auth ≠ .vacant then .refuse s .heldElsewhere
  else if m = .maint ∧ ¬ atStandstill s then .refuse s .notStandstill
  else ⟨reportInactive .holderSilent .none (s.setAa { s.aa with auth := .held m }), .ok, []⟩

/-- The Arbiter takes RELEASE (R150). -/
def takeRelease (m : Master) (s : State) : Taken :=
  if !holds s m then .refuse s .notHolder
  else ⟨s.setAa { s.aa with auth := .vacant, offer := none }, .ok, []⟩

/-- The Arbiter takes OFFER, with the checks of R151 in order and the effect of R152. -/
def takeOffer (m : Master) (target : Nat) (s : State) : Taken :=
  if !holds s m then .refuse s .notHolder
  else if !atStandstill s then .refuse s .notStandstill
  else
    match offerTarget target with
    | none => .refuse s .badValue
    | some n =>
      if n = m then .refuse s .badValue
      else if !s.aa.isPresent n then .refuse s .badValue
      else ⟨s.setAa { s.aa with auth := .offered m n, offer := some ⟨s.ct.table.offerTimeout, 0⟩ }, .ok, []⟩

/-- The Arbiter takes ACCEPT (R153). -/
def takeAccept (m : Master) (s : State) : Taken :=
  match s.aa.auth with
  | .offered _ n =>
    if n = m then ⟨s.setAa { s.aa with auth := .held n, offer := none }, .ok, []⟩ else .refuse s .noOffer
  | _ => .refuse s .noOffer

end Sys2Proof.Machine
end

