-- ==== Sys2Proof/Machine/Supervisor.lean ====
section
/-! DEFINITION. The requests the Steering Supervisor owns: HOLD, RESUME (chapter 6) and CLEAR_FAULTS (chapter 10). -/

namespace Sys2Proof.Machine

/-- The Supervisor takes HOLD: the sender first and the field second (R131). -/
def takeHold (m : Master) (mode : Nat) (s : State) : Taken :=
  if !holds s m then .refuse s .notHolder
  else
    match holdOf mode with
    | none => .refuse s .badValue
    | some h => ⟨s.setSv { s.sv with hold := h }, .ok, []⟩

/-- The Supervisor takes RESUME (R134). -/
def takeResume (m : Master) (s : State) : Taken :=
  if !holds s m then .refuse s .notHolder
  else ⟨resumeAll (s.setSv { s.sv with hold := .none }), .ok, []⟩

/-- The Odometer's part in CLEAR_FAULTS: every FAILED tacho is WORKING with failure streak 0, the disagreement and
agreement streaks are 0, and each TACHO_FAILED record is reported inactive (R63, R204 step 2; log 19). -/
def clearTachos (s : State) : State :=
  let failureAfter (t : Tacho) : Nat := if s.odo.tacho.get t = .failed then 0 else s.odo.failure.get t
  reportInactive .tachoFailed (.tacho .t2)
    (reportInactive .tachoFailed (.tacho .t1)
      (s.setOdo { s.odo with tacho := ⟨.working, .working⟩, failure := ⟨failureAfter .t1, failureAfter .t2⟩,
                             disagree := 0, disagreeTold := false, agree := 0 }))

/-- The effect of an accepted CLEAR_FAULTS before the removal: steps 1 and 2 of R204. -/
def clearConditions (s : State) : State :=
  clearTachos (clearChannel .c4 (clearChannel .c3 (clearChannel .c2 (clearChannel .c1 s))))

/-- The Supervisor takes CLEAR_FAULTS (R203, R204); the reply carries the numbers removed and remaining. -/
def takeClearFaults (m : Master) (s : State) : Taken :=
  if !holds s m then .refuse s .notHolder
  else if !atStandstill s then .refuse s .notStandstill
  else
    let s1 := clearConditions s
    let s2 := s1.setSv s1.sv.removeInactive
    ⟨s2, .ok, beBytes 1 (s1.sv.faults.length - s2.sv.faults.length) ++ beBytes 1 s2.sv.faults.length⟩

end Sys2Proof.Machine
end

