-- ==== Sys2Proof/Machine/ConfigRequests.lean ====
section
/-! DEFINITION. The requests the Configuration Table owns: SET_CONFIG, SET_GAIN, SLEEP and RESTART (chapter 9). -/

namespace Sys2Proof.Machine

/-! ### SET_CONFIG (R183 to R185) -/

/-- LOCKED or FAULTED, in any phase (R184). -/
def ChanState.lockedOrFaulted : ChanState → Bool
  | .locked => true
  | .faulted _ => true
  | _ => false

/-- LOCKED, ABSENT, or FAULTED in phase lock engaged (R123, R184). -/
def ChanState.mayBecomeAbsent : ChanState → Bool
  | .locked => true
  | .absent => true
  | .faulted .lockEngaged => true
  | _ => false

/-- LOCKED or ABSENT (R122, R184). -/
def ChanState.lockedOrAbsent : ChanState → Bool
  | .locked => true
  | .absent => true
  | _ => false

/-- Every channel that a new configuration would make absent may become so (R184). -/
def fittingAllows (s : State) (after : ConfigTable) : Bool :=
  Chan.all.all fun k => !(s.ct.table.fitted k && !after.fitted k) || (s.ac.get k).state.mayBecomeAbsent

/-- The channel states allow the change of this value, by its class (R184). -/
def changeAllowed (s : State) (p : ParamRef) (v : Int) : Bool :=
  match p with
  | .part .fitting => fittingAllows s (p.set s.ct.table v)
  | .chan .enable _ => fittingAllows s (p.set s.ct.table v)
  | .part _ => Chan.all.all fun k => !fitted s k || (s.ac.get k).state.lockedOrFaulted
  | .chan _ k => (s.ac.get k).state.lockedOrAbsent

/-- The storing of a value, with the fitting changes it makes, channel by channel (R123, R185). A value that changes no
channel's fittedness refits none. -/
def storeConfig (p : ParamRef) (v : Int) (s : State) : State :=
  let before := s.ct.table
  refit before .c4 (refit before .c3 (refit before .c2 (refit before .c1
    (s.setCt { s.ct with table := p.set before v }))))

/-- The reply items of SET_CONFIG: parameter, channel number, and the value held after the request where they name one
(R183, section 12.3). -/
def configItems (param channel : Nat) (s : State) : List Byte :=
  beBytes 1 param ++ beBytes 1 channel ++
    (match paramRef param channel with
     | none => []
     | some p => beSigned 4 (p.get s.ct.table))

/-- The Table takes SET_CONFIG, with the checks of R183 in order. -/
def takeSetConfig (m : Master) (param channel : Nat) (value : Int) (s : State) : Taken :=
  if !holds s m then ⟨s, .notHolder, configItems param channel s⟩
  else if !atStandstill s then ⟨s, .notStandstill, configItems param channel s⟩
  else
    match paramRef param channel with
    | none => ⟨s, .badValue, configItems param channel s⟩
    | some p =>
      if !p.admits value then ⟨s, .badValue, configItems param channel s⟩
      else if !changeAllowed s p value then ⟨s, .wrongState, configItems param channel s⟩
      else
        let s' := storeConfig p value s
        ⟨s', .ok, configItems param channel s'⟩

/-! ### SET_GAIN (R186) -/

/-- The Table takes SET_GAIN: a gain above 100 sets 100. -/
def takeSetGain (m : Master) (gain : Nat) (s : State) : Taken :=
  if !holds s m then .refuse s .notHolder
  else ⟨s.setCt { s.ct with gain := min gain 100 }, .ok, beBytes 1 (min gain 100)⟩

/-! ### SLEEP and RESTART (R190, R193) -/

/-- LOCKED, or FAULTED in phase lock engaged (R190, R193). -/
def ChanState.atRest : ChanState → Bool
  | .locked => true
  | .faulted .lockEngaged => true
  | _ => false

/-- Every fitted channel is at rest. -/
def allAtRest (s : State) : Bool := Chan.all.all fun k => !fitted s k || (s.ac.get k).state.atRest

/-- The Table takes SLEEP or RESTART: an accepted one sets the pending mode change, and nothing else changes before the end
of its service (R190, R193, R195). -/
def takeModeChange (m : Master) (change : PendingMode) (s : State) : Taken :=
  if !holds s m then .refuse s .notHolder
  else if !atStandstill s then .refuse s .notStandstill
  else if !allAtRest s then .refuse s .wrongState
  else ⟨s.setCt { s.ct with pendingMode := change }, .ok, []⟩

end Sys2Proof.Machine
end

