-- ==== Sys2Proof/Machine/Modes.lean ====
section
/-! DEFINITION. The operating modes (section 9.4): entry to SLEEP, wake, RESTART, the end of WAKING, reset and loss of
supply, each with what it does to every block. -/

namespace Sys2Proof.Machine

/-! ### What RESTART, SLEEP and wake share -/

/-- A channel's schedule record at its power-on values; the change of source of a fitted channel is reported (R28,
R38). -/
def resetRecord (k : Chan) (s : State) : State :=
  let s1 := s.setSs (s.ss.set k SsRec.reset)
  if fitted s k then reportSource k s1 else s1

/-- Every schedule record at its power-on values. -/
def resetRecords (s : State) : State := resetRecord .c4 (resetRecord .c3 (resetRecord .c2 (resetRecord .c1 s)))

/-- A channel as RESTART and entry to SLEEP leave it, conversion and homing apart (R125). -/
def Channel.rested (ch : Channel) : Channel := { ch.toUnhomed with sched := 0, persist := 0 }

/-- One operation on every channel in order. -/
def eachChannel (f : Chan → State → State) (s : State) : State := f .c4 (f .c3 (f .c2 (f .c1 s)))

/-! ### Entry to SLEEP (R191) -/

/-- A channel at the entry to SLEEP: a fitted one is UNHOMED with its conversion abandoned, and its records reported
inactive if it was FAULTED (R120, R125). DESIGN CHOICE (log 27): an absent channel stays as it is, its scheduled angle too. -/
def sleepChannel (k : Chan) (s : State) : State :=
  if fitted s k then
    let s1 := inactiveIfFaulted k s
    commit k ⟨{ (s1.ac.get k).rested with conv := .none }, []⟩ s1
  else s

/-- The Odometer at the entry to SLEEP (R70). -/
def Odo.asleep (o : Odo) : Odo :=
  { o with timer := none, acc := ⟨0, 0⟩, failure := ⟨0, 0⟩, disagree := 0, disagreeTold := false, agree := 0,
           ref := none }

/-- The Line Interface at the entry to SLEEP (R180). -/
def Li.asleep (l : Li) : Li :=
  { l with receiver := .stopped, inFrame := false, ones := 0, queue := [], service := none, overrun := false }

/-- SLEEP_ENTRY (R191). What is on its way between blocks is dropped (log 7). -/
def sleepEntry (s : State) : State :=
  let s1 := (((s.setLi s.li.asleep).setAa Aa.reset).setOdo s.odo.asleep).setPath Path.empty
  let s2 := closeWindow s1
  let s3 := eachChannel sleepChannel s2
  let s4 := s3.setSv { s3.sv with hold := .none }
  s4.setCt { s4.ct with gain := 100, mode := .sleep, stab := none, pendingMode := .none }

/-! ### Wake (R192) -/

/-- The Odometer at wake (R70). -/
def Odo.awake (o : Odo) (interval : Nat) : Odo := { o.asleep with timer := some ⟨interval, 0⟩ }

/-- WAKE: the first edge on the line in SLEEP; in every other mode an edge is no event of its own (R187, R192). The frame
bearing the edge is on the line until its closing flag or an abort (R167, R180; log 14). -/
def wake (s : State) : State :=
  if s.ct.mode = .sleep then
    let s1 := s.setCt { s.ct with mode := .waking, stab := some ⟨s.ct.table.stabTime, 0⟩ }
    let s2 := s1.setOdo (s1.odo.awake s1.ct.table.frameInterval)
    let s3 := (s2.setLi { s2.li with receiver := .waiting, inFrame := true, line := .busy, ones := 0 }).setAa Aa.reset
    resetRecords s3
  else s

/-! ### RESTART (R194) -/

/-- A channel at RESTART: a fitted one is UNHOMED, then HOMING at once, and its records are reported inactive if it was
FAULTED (R120, R125). DESIGN CHOICE (log 27): an absent channel stays as it is, its scheduled angle too. -/
def restartChannel (k : Chan) (s : State) : State :=
  if fitted s k then
    let s1 := inactiveIfFaulted k s
    commit k ⟨(s1.ac.get k).rested.toHoming, []⟩ s1
  else s

/-- RESTART_EFFECTS (R194); samples and corrections on their way stay on it (log 8). -/
def restartEffects (s : State) : State :=
  let s1 := closeWindow (s.setAa Aa.reset)
  let s2 := resetRecords s1
  let s3 := eachChannel restartChannel s2
  let s4 := s3.setSv { s3.sv with hold := .none }
  s4.setCt { s4.ct with gain := 100, pendingMode := .none }

/-- The pending mode change at the end of the service that set it (R191, R194). -/
def applyPendingMode (s : State) : State :=
  match s.ct.pendingMode with
  | .none => s
  | .restart => restartEffects s
  | .sleep => sleepEntry s

/-! ### The end of WAKING (R189) -/

/-- A fitted channel's entry into HOMING (R98). -/
def homeChannel (k : Chan) (s : State) : State :=
  if fitted s k then commit k ⟨(s.ac.get k).toHoming, []⟩ s else s

/-- STABILISATION_TIMER_EXPIRY: the running timer expires in WAKING; the part enters RUN and every fitted channel HOMING. -/
def stabilisationExpiry (s : State) : State :=
  match s.ct.mode, s.ct.stab with
  | .waking, some _ => eachChannel homeChannel (s.setCt { s.ct with mode := .run, stab := none })
  | _, _ => s

/-! ### Reset and supply (R188) -/

/-- A channel with its drive off, its solenoid de-energised and its work abandoned. -/
def Channel.quiet (ch : Channel) : Channel := { ch.timersIdle with drive := .off, solenoid := false, conv := .none }

/-- A presence whose timer does not run. -/
def Presence.stopped (p : Presence) : Presence := { p with timer := none }

/-- The Arbiter with its offer abandoned and its timers stopped. -/
def Aa.quiet (a : Aa) : Aa :=
  { auth := match a.auth with
      | .offered m _ => .held m
      | other => other
    offer := none, p1 := a.p1.stopped, p2 := a.p2.stopped, p4 := a.p4.stopped }

/-- The part with its outputs off, its timers stopped and all work in progress abandoned (R188). What else it holds stays,
and nothing can observe it before the power-on reset that ends this (log 12). -/
def quiesce (s : State) : State :=
  let s1 := (s.setLi { s.li with receiver := .stopped, queue := [], service := none }).setAa s.aa.quiet
  let s2 := (s1.setOdo { s1.odo with timer := none }).setCt { s1.ct with stab := none, pendingMode := .none }
  let s3 := s2.setAc (Quad.build fun k => (s2.ac.get k).quiet)
  s3.setPath Path.empty

/-- RESET_ASSERTED: a supplied part is held in reset (R188). -/
def resetAsserted (s : State) : State := if s.power = .noSupply then s else (quiesce s).setPower .inReset

/-- SUPPLY_LOSS: the part stops until supply returns (R188). -/
def supplyLoss (s : State) : State := (quiesce s).setPower .noSupply

/-- The readings of one channel's sensor pins (R211). -/
def SensorPins.readings (p : SensorPins) : Contact × Centre := (decodeContact p.lke p.lkr, decodeCentre p.ctl p.ctr)

/-- POWER_ON_RESET: supply has come up or the reset input has been released, and every block takes its power-on values; the
straps and the sensor inputs are read (R90, R168, R188). The commands still waiting outside the part stay waiting, and the
model's own count of bit times goes on (log 28). -/
def powerOnReset (straps : Nat) (pins : Quad SensorPins) (s : State) : State :=
  let s1 := State.afterReset straps
    ⟨SensorPins.readings pins.c1, SensorPins.readings pins.c2, SensorPins.readings pins.c3,
      SensorPins.readings pins.c4⟩
  (s1.setLi { s1.li with bitTime := s.li.bitTime }).setPending s.pending

end Sys2Proof.Machine
end

