-- ==== Sys2Proof/Machine/Line.lean ====
section
/-! DEFINITION. The Line Interface (chapter 8): receiver, address and broadcast filters, receive queue, dispatch, service
and replies, with the read requests it answers itself. -/

namespace Sys2Proof.Machine

/-! ### Dispatch (R171) -/

/-- What the Line Interface itself fixes at the dispatch of a read request: nothing but the judgement of its field; the
items are taken at the start of the reply (R172, R177, R179). -/
def takeRead (fieldOk : Bool) (s : State) : Taken := if fieldOk then ⟨s, .ok, []⟩ else .refuse s .badValue

/-- A request handed to its owner (R171 order 5), or judged by its length (order 3). -/
def ownerTakes (m : Master) (req : Request) (s : State) : Taken :=
  match req with
  | .claim => takeClaim m s
  | .release => takeRelease m s
  | .offer t => takeOffer m t s
  | .accept => takeAccept m s
  | .openRoute f => takeOpenRoute m f s
  | .appendSegment f => takeAppendSegment m f s
  | .closeRoute => takeCloseRoute m s
  | .place r u => takePlace m r u s
  | .speedReference v flags => takeSpeedReference m v flags s
  | .unlock => takeUnlock m s
  | .calibrate c => takeCalibrate m c s
  | .centreAll => takeCentreAll m s
  | .hold mode => takeHold m mode s
  | .resume => takeResume m s
  | .clearFaults => takeClearFaults m s
  | .setConfig p c v => takeSetConfig m p c v s
  | .setGain g => takeSetGain m g s
  | .sleep => takeModeChange m .sleep s
  | .restart => takeModeChange m .restart s
  | .readStatus => takeRead true s
  | .readPosition => takeRead true s
  | .readChannel c => takeRead (chanOf c).isSome s
  | .readWindow _ => takeRead true s
  | .readFaults p => takeRead (p ≤ 15) s
  | .badLength _ => .refuse s .badValue
  | .unknownKind _ => .refuse s .unknownKind

/-- The judgement of a frame in service, in the order of R171: unknown kind, NOT_READY in WAKING, payload length, owner.
For a broadcast a refusal is a drop: its state is unchanged (R161, R171 order 4). -/
def judge (m : Master) (req : Request) (s : State) : Taken :=
  match req.kind with
  | none => .refuse s .unknownKind
  | some k => if s.ct.mode = .waking ∧ ¬ k.isRead then .refuse s .notReady else ownerTakes m req s

/-- The end of a service: no frame in service, and the pending mode change takes effect (R171, R191, R194). -/
def endService (s : State) : State := applyPendingMode (s.setLi { s.li with service := none })

/-- The dispatch of a frame just taken from the queue. An addressed frame stays in service with its outcome, unless its 2 ms
have passed, when its reply is dropped at once (R173). -/
def dispatch (f : QFrame) (s : State) : State :=
  let t := judge f.hdr.src f.req s
  match f.hdr.dest with
  | .broadcast => t.state
  | .addressed =>
    let service : Service := { hdr := f.hdr, req := f.req, age := f.age, result := t.result, items := t.items, reply := none }
    let s1 := t.state.setLi { t.state.li with service := some service }
    if Config.replyDeadline ≤ f.age then endService s1 else s1

/-- The serving of the queue: with no frame in service, the head frame is taken and dispatched (R171). The first argument
bounds the number of dispatches; the queue's length is enough, since no dispatch adds to the queue. -/
def serveUpTo : Nat → State → State
  | 0, s => s
  | n + 1, s =>
    match s.li.service, s.li.queue with
    | none, f :: rest => serveUpTo n (dispatch f (s.setLi { s.li with queue := rest }))
    | _, _ => s

/-- The queue served until a frame stays in service or the queue is empty. -/
def serve (s : State) : State := serveUpTo s.li.queue.length s

/-! ### Acceptance (R145, R168 to R170) -/

/-- A broadcast of this kind from this source goes on to the queue (R169). -/
def broadcastPasses (m : Master) (req : Request) : Bool :=
  match req.kind with
  | some .speedReference => m == .brake
  | some .setGain => m != .brake
  | some .hold => m != .brake
  | some .resume => m != .brake
  | _ => false

/-- The broadcast filter (R169); an addressed frame passes it by. -/
def passesFilter (h : Hdr) (req : Request) : Bool :=
  match h.dest with
  | .addressed => true
  | .broadcast => broadcastPasses h.src req

/-- An accepted frame joins the queue, or is discarded with the overrun flag set when the queue holds three (R170). -/
def enqueue (h : Hdr) (req : Request) (s : State) : State :=
  if s.li.queue.length < Config.queueDepth then
    s.setLi { s.li with queue := s.li.queue ++ [{ hdr := h, req := req, age := 0 }] }
  else s.setLi { s.li with overrun := true }

/-- A frame accepted at the address filter: presence reload, broadcast filter, queue, and dispatch where nothing is in
service (R145, R168 to R171). -/
def acceptFrame (h : Hdr) (req : Request) (s : State) : State :=
  let s1 := presenceReload h.src s
  if passesFilter h req then serve (enqueue h req s1) else s1

/-! ### The receiver (R164, R165, R167, R180) -/

/-- The receiver after a wake waits for 16 bit times of ones, and a stopped one receives nothing (R164, R180). -/
def Receiver.runs : Receiver → Bool
  | .hunting => true
  | .receiving => true
  | .waiting => false
  | .stopped => false

/-- The line may rest at ones where no frame is known to be on it, another sender's or the part's own: the receiver hunts, or
waits after a wake, outside a frame that a flag has opened (R164, R167, R180). Whether it does is the free value's to say
(log 28). -/
def Li.seesOnes (l : Li) : Bool :=
  match l.receiver with
  | .hunting => !l.inFrame
  | .receiving => false
  | .waiting => !l.inFrame
  | .stopped => false

/-- A flag on the line, which leaves the receiver as given, and a frame of another sender on the line or none: the line is
BUSY, and the count of unbroken ones starts again (R167). -/
def Li.flag (l : Li) (r : Receiver) (inFrame : Bool) : Li :=
  { l with receiver := r, inFrame := inFrame, line := .busy, ones := 0 }

/-- The line and the receiver as the closing flag of a received frame leaves them (R164, R167). -/
def closeReception (s : State) : State := s.setLi (s.li.flag .hunting false)

/-- Another sender's flag where the receiver takes no frame: after a wake and during the part's own reply it is noted; in SLEEP
the line-busy state is not kept (R164, R167, R180). -/
def noteFlag (inFrame : Bool) (s : State) : State :=
  if s.ct.mode = .sleep then s else s.setLi (s.li.flag s.li.receiver inFrame)

/-- A request received: the frame that carries it, from its opening flag to its closing flag, accepted at the address
filter. A receiver that does not run receives no frame, and its flags are noted (R164, R167, R191, R192; log 1). -/
def receiveRequest (h : Hdr) (req : Request) (s : State) : State :=
  if s.li.receiver.runs then acceptFrame h req (closeReception s) else noteFlag false s

/-- The judgement of the bits that a closing flag ends (R165, R168, R208). -/
def receiveBits (bits : List Bool) (s : State) : State :=
  match frameOfBits bits with
  | none => s
  | some f =>
    match f.accepted s.li.address with
    | none => s
    | some h => acceptFrame h (requestOf f.kind f.payload) s

/-- FRAME_CLOSED: a flag on the line, with the bits since the flag before it. While receiving it closes the frame, or opens
it anew when there are no bits; while hunting it is an opening flag (R164). A receiver that does not run takes no frame, and
the flag closes or opens one on the line alone: after bits it closes the frame they belong to, whose opening flag may have
closed another frame as well (R164, R167, R180). -/
def frameClosed (bits : List Bool) (s : State) : State :=
  match s.li.receiver with
  | .stopped => noteFlag bits.isEmpty s
  | .waiting => noteFlag bits.isEmpty s
  | .hunting => s.setLi (s.li.flag .receiving true)
  | .receiving =>
    if bits = [] then s.setLi (s.li.flag .receiving true) else receiveBits bits (closeReception s)

/-- A frame on the line aborted, which leaves the receiver as given: the ones that aborted it count toward FREE (R167). -/
def Li.aborted (l : Li) (r : Receiver) : Li := { l with receiver := r, inFrame := false, ones := Config.abortOnes }

/-- FRAME_ABORT: the seventh of a run of ones inside a frame; the run goes on to count toward FREE, but for one that the part's
own reply overlaps (R164, R167). -/
def frameAbort (s : State) : State :=
  match s.li.receiver with
  | .receiving => s.setLi (s.li.aborted .hunting)
  | .hunting => if s.li.inFrame then s.setLi (s.li.aborted .hunting) else s
  | .waiting => if s.li.inFrame then s.setLi (s.li.aborted .waiting) else s
  | .stopped => s.setLi { s.li with inFrame := false }

/-- OPENING_FLAG: a flag with no content before it (R164, R167). -/
def openingFlag (s : State) : State :=
  if s.li.receiver.runs then s.setLi (s.li.flag .receiving true) else noteFlag true s

/-- LINE_FREE: the line, once it has carried unbroken ones for 16 bit times, is FREE; they end the wait of a wake too (R167,
R180). Before that, inside a frame, and while the receiver is stopped, it has no effect. -/
def lineFree (s : State) : State :=
  if s.li.seesOnes ∧ Config.freeOnes ≤ s.li.ones then s.setLi { s.li with receiver := .hunting, line := .free }
  else s

/-! ### Replies (R172 to R179) -/

/-- READ_STATUS reply items (R175). -/
def statusItems (s : State) : List Byte :=
  beBytes 1 s.odo.standstill.code ++ beBytes 1 s.sv.hold.code ++ beBytes 1 s.ct.gain ++ beBytes 2 (wholeMm s.pfu.u)

/-- READ_POSITION reply items (R176). -/
def positionItems (s : State) : List Byte :=
  beBytes 4 (wholeMm s.odo.r) ++ beSigned 4 s.odo.d ++ beBytes 1 s.odo.lastInterval ++ beBytes 1 s.odo.quality.code ++
    beBytes 2 (wholeMm s.pfu.u) ++ beBytes 1 s.pfu.conf.code ++ beBytes 1 (bit s.pfu.lastCorrection.isSome 1) ++
    beSigned 4 (s.pfu.lastCorrection.getD 0) ++ beBytes 1 s.pfu.miss

/-- READ_CHANNEL reply items (R177). -/
def channelItems (k : Chan) (s : State) : List Byte :=
  let ch := s.ac.get k
  let ss := s.ss.get k
  if fitted s k then
    beBytes 1 ch.state.code ++ beBytes 1 ch.state.phaseCode ++ beBytes 1 (bit ch.mark 1 + bit ss.look.isSome 2) ++
      beSigned 2 ch.theta ++ beSigned 2 ch.sched ++ beSigned 2 ch.m ++ beBytes 1 ch.persist ++
      beBytes 1 ch.contact.code ++ beBytes 1 ch.centre.code ++ beBytes 1 ss.source.code ++ beSigned 4 ss.carried ++
      beSigned 4 (ss.look.getD 0)
  else beBytes 1 ChanState.absent.code

/-- The record at a position of the window with its start distance (R178). -/
def recordAt (start : Nat) : List Segment → Nat → Option (Segment × Nat)
  | [], _ => none
  | g :: _, 0 => some (g, start)
  | g :: gs, i + 1 => recordAt (start + g.length) gs i

/-- READ_WINDOW reply items: the record, or the empty mark (R178). -/
def windowRecordItems (i : Nat) (s : State) : List Byte :=
  match recordAt s.rw.rear s.rw.segs i with
  | some (g, start) => g.bytes start
  | none => beBytes 1 0

/-- READ_FAULTS reply items: n, the list-full flag, and the records at p and p + 1 that exist (R179). -/
def faultItems (p : Nat) (s : State) : List Byte :=
  beBytes 1 s.sv.faults.length ++ beBytes 1 (bit s.sv.listFull 1) ++
    ((s.sv.faults.drop p).take 2).flatMap FaultRecord.bytes

/-- The answer from position p reaches the end of a list of n records (R179). -/
def reachesEnd (p n : Nat) : Bool := n == 0 || p + 1 == n || p + 2 == n

/-- The items of a reply: for a read request answered OK those taken now, otherwise those fixed at dispatch (R172). -/
def replyItems (v : Service) (s : State) : List Byte :=
  match v.result, v.req with
  | .ok, .readStatus => statusItems s
  | .ok, .readPosition => positionItems s
  | .ok, .readChannel c =>
    match chanOf c with
    | some k => channelItems k s
    | none => []
  | .ok, .readWindow i => windowRecordItems i s
  | .ok, .readFaults p => faultItems p s
  | _, _ => v.items

/-- The notice flags after a reply has been taken: a READ_FAULTS answer that reaches the end of the list clears its
sender's (R179, R202). -/
def noticesAfter (v : Service) (s : State) : Notices :=
  match v.result, v.req with
  | .ok, .readFaults p => if reachesEnd p s.sv.faults.length then s.sv.notice.clear v.hdr.src else s.sv.notice
  | _, _ => s.sv.notice

/-- The reply to the frame in service, as composed at its start (R172). -/
def composeReply (v : Service) (s : State) : Reply :=
  { result := v.result, summary := summaryFor v.hdr.src s, items := replyItems v s }

/-- A reply that waits may start: it has not, the line is FREE and has carried ones for 20 bit times, and the 2 ms of its
request have not passed (R173). -/
def Li.mayReply (l : Li) (v : Service) : Bool :=
  v.reply.isNone && l.line == .free && Config.replyOnes ≤ l.ones && v.age < Config.replyDeadline

/-- REPLY_START: with a frame dispatched whose reply may start, it starts; taking the summary clears the overrun flag, and
the part's own flags make the line BUSY and stop its receiver (R164, R167, R172, R173). -/
def replyStart (s : State) : State :=
  match s.li.service with
  | none => s
  | some v =>
    if s.li.mayReply v then
      let s1 := s.setSv { s.sv with notice := noticesAfter v s }
      s1.setLi { s1.li.flag .stopped s1.li.inFrame with
        service := some { v with reply := some (composeReply v s) }, overrun := false }
    else s

/-- END_OF_SERVICE: the reply has been sent to its closing flag; the receiver returns to hunting, a frame of another sender
that the reply overlapped is still on the line, and the next frame is served (R164, R167, R171). -/
def endOfService (s : State) : State :=
  match s.li.service with
  | none => s
  | some v =>
    match v.reply with
    | none => s
    | some _ => serve (endService (s.setLi (s.li.flag .hunting s.li.inFrame)))

/-- REPLY_DROP: a reply that has not started 500 bit times after its request is dropped, and its service ends (R173). -/
def replyDrop (s : State) : State :=
  match s.li.service with
  | none => s
  | some v => if v.reply.isNone ∧ Config.replyDeadline ≤ v.age then serve (endService s) else s

/-- The frame of a reply in progress: from this part to the request's sender, with the request's kind (R172, R208). -/
def replyFrame (own : Nat) (v : Service) (r : Reply) : RawFrame :=
  { dest := v.hdr.src.address, src := own, kind := v.req.kindCode, payload := r.payload }

end Sys2Proof.Machine
end

