-- ==== Sys2Proof/Machine/Events.lean ====
section
/-! DEFINITION. The meanings of the event rows: what the line, the timers, the sensors and the internal paths do to the
part. Every event but the three of supply and reset acts on a part that is on, and on no other (R188). -/

namespace Sys2Proof.Machine

/-- An event row: what the event does to a part that is on. -/
def runEvent (f : State → State) (s : State) : Host.Outcome State Fault Refusal := .next (whenOn s f)

/-- FRAME_CLOSED (R165). -/
def execFrameClosed (bits : List Bool) (s : State) : Host.Outcome State Fault Refusal :=
  runEvent (frameClosed bits) s

/-- FRAME_ABORT (R164). -/
def execFrameAbort (s : State) : Host.Outcome State Fault Refusal :=
  runEvent frameAbort s

/-- LINE_FREE (R167). -/
def execLineFree (s : State) : Host.Outcome State Fault Refusal :=
  runEvent lineFree s

/-- REPLY_START (R173). -/
def execReplyStart (s : State) : Host.Outcome State Fault Refusal :=
  runEvent replyStart s

/-- END_OF_SERVICE (R171). -/
def execEndOfService (s : State) : Host.Outcome State Fault Refusal :=
  runEvent endOfService s

/-- REPLY_DROP (R173). -/
def execReplyDrop (s : State) : Host.Outcome State Fault Refusal :=
  runEvent replyDrop s

/-- WAKE (R192). -/
def execWake (s : State) : Host.Outcome State Fault Refusal :=
  runEvent wake s

/-- RESET_ASSERTED (R188). -/
def execResetAsserted (s : State) : Host.Outcome State Fault Refusal :=
  .next (resetAsserted s)

/-- POWER_ON_RESET (R188). -/
def execPowerOnReset (straps : Nat) (pins : Quad SensorPins) (s : State) : Host.Outcome State Fault Refusal :=
  .next (powerOnReset straps pins s)

/-- STABILISATION_TIMER_EXPIRY (R189). -/
def execStabilisationTimerExpiry (s : State) : Host.Outcome State Fault Refusal :=
  runEvent stabilisationExpiry s

/-- FRAME_TIMER_EXPIRY (R53). -/
def execFrameTimerExpiry (s : State) : Host.Outcome State Fault Refusal :=
  runEvent frameTimerExpiry s

/-- TACHO_FAILED (R62). -/
def execTachoFailed (t : Tacho) (s : State) : Host.Outcome State Fault Refusal :=
  runEvent (tachoFailed t) s

/-- TACHO_DISAGREE (R64). -/
def execTachoDisagree (s : State) : Host.Outcome State Fault Refusal :=
  runEvent tachoDisagree s

/-- TACHO_AGREEMENT_REACHED (R64). -/
def execTachoAgreementReached (s : State) : Host.Outcome State Fault Refusal :=
  runEvent tachoAgreementReached s

/-- STANDSTILL_REACHED (R65). -/
def execStandstillReached (s : State) : Host.Outcome State Fault Refusal :=
  runEvent standstillReached s

/-- TACHO_COUNT (R55). -/
def execTachoCount (t : Tacho) (e : TachoEdge) (s : State) : Host.Outcome State Fault Refusal :=
  runEvent (tachoCount t e) s

/-- SAMPLE_AT_PFU (R74). -/
def execSampleAtPfu (s : State) : Host.Outcome State Fault Refusal :=
  runEvent sampleAtPfu s

/-- BEACON_MISSED (R78). -/
def execBeaconMissed (s : State) : Host.Outcome State Fault Refusal :=
  runEvent beaconMissed s

/-- SAMPLE_AT_RW (R10). -/
def execSampleAtRw (s : State) : Host.Outcome State Fault Refusal :=
  runEvent sampleAtRw s

/-- SAMPLE_AT_SS (R30). -/
def execSampleAtSs (s : State) : Host.Outcome State Fault Refusal :=
  runEvent sampleAtSs s

/-- CARRY_LIMIT_EXCEEDED (R36). -/
def execCarryLimitExceeded (k : Chan) (s : State) : Host.Outcome State Fault Refusal :=
  runEvent (carryLimitExceeded k) s

/-- CONVERSION_COMPLETION (R94). -/
def execConversionCompletion (k : Chan) (raw : Nat) (s : State) : Host.Outcome State Fault Refusal :=
  runEvent (completeConversion k raw) s

/-- TRACKING_ERROR (R108). -/
def execTrackingError (k : Chan) (s : State) : Host.Outcome State Fault Refusal :=
  runEvent (trackingError k) s

/-- DRIVE_PERIOD_START (R95). -/
def execDrivePeriodStart (k : Chan) (s : State) : Host.Outcome State Fault Refusal :=
  runEvent (drivePeriodStart k) s

/-- LOCK_CONTACT_CHANGE (R92). -/
def execLockContactChange (k : Chan) (lke : Bool) (lkr : Bool) (s : State) : Host.Outcome State Fault Refusal :=
  runEvent (lockContactChange k lke lkr) s

/-- CENTRE_SENSOR_CHANGE (R100). -/
def execCentreSensorChange (k : Chan) (ctl : Bool) (ctr : Bool) (s : State) : Host.Outcome State Fault Refusal :=
  runEvent (centreSensorChange k ctl ctr) s

/-- HOMING_TIMEOUT (R102). -/
def execHomingTimeout (k : Chan) (s : State) : Host.Outcome State Fault Refusal :=
  runEvent (homingTimeout k) s

/-- LOCK_STUCK (R106). -/
def execLockStuck (k : Chan) (s : State) : Host.Outcome State Fault Refusal :=
  runEvent (lockStuck k) s

/-- LOCK_FAIL (R118). -/
def execLockFail (k : Chan) (s : State) : Host.Outcome State Fault Refusal :=
  runEvent (lockFail k) s

/-- SETTLE_FRAMES_REACHED (R105). -/
def execSettleFramesReached (k : Chan) (s : State) : Host.Outcome State Fault Refusal :=
  runEvent (settleFramesReached k) s

/-- CENTRING_TIMER_EXPIRY (R112). -/
def execCentringTimerExpiry (k : Chan) (s : State) : Host.Outcome State Fault Refusal :=
  runEvent (centringTimerExpiry k) s

/-- BEACON_TELEGRAM (R79). -/
def execBeaconTelegram (id : Nat) (checkGood : Bool) (s : State) : Host.Outcome State Fault Refusal :=
  runEvent (beaconTelegram id checkGood) s

/-- POSITION_CORRECTION (R68). -/
def execPositionCorrection (s : State) : Host.Outcome State Fault Refusal :=
  runEvent positionCorrection s

/-- BEACON_MARK (R15). -/
def execBeaconMark (s : State) : Host.Outcome State Fault Refusal :=
  runEvent beaconMark s

/-- PRESENCE_TIMER_EXPIRY (R146). -/
def execPresenceTimerExpiry (m : Master) (s : State) : Host.Outcome State Fault Refusal :=
  runEvent (presenceExpiry m) s

/-- OFFER_TIMER_EXPIRY (R154). -/
def execOfferTimerExpiry (s : State) : Host.Outcome State Fault Refusal :=
  runEvent offerExpiry s

/-- OPENING_FLAG (R164). -/
def execOpeningFlag (s : State) : Host.Outcome State Fault Refusal :=
  runEvent openingFlag s

/-- SUPPLY_LOSS (R188). -/
def execSupplyLoss (s : State) : Host.Outcome State Fault Refusal :=
  .next (supplyLoss s)

end Sys2Proof.Machine
end

