-- ==== Sys2Proof/Machine/Requests.lean ====
section
/-! DEFINITION. The meanings of the request rows: each is the frame of that request received from the line (log 1). -/

namespace Sys2Proof.Machine

/-- A request row: what a part that is on does with the frame that carries the request. -/
def runRequest (h : Hdr) (req : Request) (s : State) : Host.Outcome State Fault Refusal :=
  .next (whenOn s (receiveRequest h req))

/-- OPEN_ROUTE (R17). -/
def execOpenRoute (h : Hdr) (f : OpenRouteFields) (s : State) : Host.Outcome State Fault Refusal :=
  runRequest h (.openRoute f) s

/-- APPEND_SEGMENT (R19). -/
def execAppendSegment (h : Hdr) (f : SegmentFields) (s : State) : Host.Outcome State Fault Refusal :=
  runRequest h (.appendSegment f) s

/-- CLOSE_ROUTE (R23). -/
def execCloseRoute (h : Hdr) (s : State) : Host.Outcome State Fault Refusal :=
  runRequest h .closeRoute s

/-- SPEED_REFERENCE (R57). -/
def execSpeedReference (h : Hdr) (v : Int) (flags : Nat) (s : State) : Host.Outcome State Fault Refusal :=
  runRequest h (.speedReference v flags) s

/-- PLACE (R86). -/
def execPlace (h : Hdr) (rRef : Nat) (u : Nat) (s : State) : Host.Outcome State Fault Refusal :=
  runRequest h (.place rRef u) s

/-- UNLOCK (R104). -/
def execUnlock (h : Hdr) (s : State) : Host.Outcome State Fault Refusal :=
  runRequest h .unlock s

/-- CENTRE_ALL (R114). -/
def execCentreAll (h : Hdr) (s : State) : Host.Outcome State Fault Refusal :=
  runRequest h .centreAll s

/-- CALIBRATE (R121). -/
def execCalibrate (h : Hdr) (channel : Nat) (s : State) : Host.Outcome State Fault Refusal :=
  runRequest h (.calibrate channel) s

/-- HOLD (R131). -/
def execHold (h : Hdr) (mode : Nat) (s : State) : Host.Outcome State Fault Refusal :=
  runRequest h (.hold mode) s

/-- RESUME (R134). -/
def execResume (h : Hdr) (s : State) : Host.Outcome State Fault Refusal :=
  runRequest h .resume s

/-- CLAIM (R148). -/
def execClaim (h : Hdr) (s : State) : Host.Outcome State Fault Refusal :=
  runRequest h .claim s

/-- RELEASE (R150). -/
def execRelease (h : Hdr) (s : State) : Host.Outcome State Fault Refusal :=
  runRequest h .release s

/-- OFFER (R152). -/
def execOffer (h : Hdr) (target : Nat) (s : State) : Host.Outcome State Fault Refusal :=
  runRequest h (.offer target) s

/-- ACCEPT (R153). -/
def execAccept (h : Hdr) (s : State) : Host.Outcome State Fault Refusal :=
  runRequest h .accept s

/-- READ_STATUS (R175). -/
def execReadStatus (h : Hdr) (s : State) : Host.Outcome State Fault Refusal :=
  runRequest h .readStatus s

/-- READ_POSITION (R176). -/
def execReadPosition (h : Hdr) (s : State) : Host.Outcome State Fault Refusal :=
  runRequest h .readPosition s

/-- READ_CHANNEL (R177). -/
def execReadChannel (h : Hdr) (channel : Nat) (s : State) : Host.Outcome State Fault Refusal :=
  runRequest h (.readChannel channel) s

/-- READ_WINDOW (R178). -/
def execReadWindow (h : Hdr) (position : Nat) (s : State) : Host.Outcome State Fault Refusal :=
  runRequest h (.readWindow position) s

/-- READ_FAULTS (R179). -/
def execReadFaults (h : Hdr) (position : Nat) (s : State) : Host.Outcome State Fault Refusal :=
  runRequest h (.readFaults position) s

/-- SET_CONFIG (R183). -/
def execSetConfig (h : Hdr) (param : Nat) (channel : Nat) (value : Int) (s : State) : Host.Outcome State Fault Refusal :=
  runRequest h (.setConfig param channel value) s

/-- SET_GAIN (R186). -/
def execSetGain (h : Hdr) (gain : Nat) (s : State) : Host.Outcome State Fault Refusal :=
  runRequest h (.setGain gain) s

/-- SLEEP (R190). -/
def execSleep (h : Hdr) (s : State) : Host.Outcome State Fault Refusal :=
  runRequest h .sleep s

/-- RESTART (R193). -/
def execRestart (h : Hdr) (s : State) : Host.Outcome State Fault Refusal :=
  runRequest h .restart s

/-- CLEAR_FAULTS (R204). -/
def execClearFaults (h : Hdr) (s : State) : Host.Outcome State Fault Refusal :=
  runRequest h .clearFaults s

end Sys2Proof.Machine
end

