-- ==== Sys2Proof/Machine/Dispatch.lean ====
section
/-! DEFINITION. The dispatch of a command to its meaning: one arm per constructor. -/

namespace Sys2Proof.Machine

def exec (i : Instr) (s : State) : Host.Outcome State Fault Refusal :=
  match i with
  | .openRoute h f => Sys2Proof.Machine.execOpenRoute h f s
  | .appendSegment h f => Sys2Proof.Machine.execAppendSegment h f s
  | .closeRoute h => Sys2Proof.Machine.execCloseRoute h s
  | .speedReference h v flags => Sys2Proof.Machine.execSpeedReference h v flags s
  | .place h rRef u => Sys2Proof.Machine.execPlace h rRef u s
  | .unlock h => Sys2Proof.Machine.execUnlock h s
  | .centreAll h => Sys2Proof.Machine.execCentreAll h s
  | .calibrate h channel => Sys2Proof.Machine.execCalibrate h channel s
  | .hold h mode => Sys2Proof.Machine.execHold h mode s
  | .resume h => Sys2Proof.Machine.execResume h s
  | .claim h => Sys2Proof.Machine.execClaim h s
  | .release h => Sys2Proof.Machine.execRelease h s
  | .offer h target => Sys2Proof.Machine.execOffer h target s
  | .accept h => Sys2Proof.Machine.execAccept h s
  | .readStatus h => Sys2Proof.Machine.execReadStatus h s
  | .readPosition h => Sys2Proof.Machine.execReadPosition h s
  | .readChannel h channel => Sys2Proof.Machine.execReadChannel h channel s
  | .readWindow h position => Sys2Proof.Machine.execReadWindow h position s
  | .readFaults h position => Sys2Proof.Machine.execReadFaults h position s
  | .setConfig h param channel value => Sys2Proof.Machine.execSetConfig h param channel value s
  | .setGain h gain => Sys2Proof.Machine.execSetGain h gain s
  | .sleep h => Sys2Proof.Machine.execSleep h s
  | .restart h => Sys2Proof.Machine.execRestart h s
  | .clearFaults h => Sys2Proof.Machine.execClearFaults h s
  | .frameClosed bits => Sys2Proof.Machine.execFrameClosed bits s
  | .frameAbort => Sys2Proof.Machine.execFrameAbort s
  | .lineFree => Sys2Proof.Machine.execLineFree s
  | .replyStart => Sys2Proof.Machine.execReplyStart s
  | .endOfService => Sys2Proof.Machine.execEndOfService s
  | .replyDrop => Sys2Proof.Machine.execReplyDrop s
  | .wake => Sys2Proof.Machine.execWake s
  | .resetAsserted => Sys2Proof.Machine.execResetAsserted s
  | .powerOnReset straps pins => Sys2Proof.Machine.execPowerOnReset straps pins s
  | .stabilisationTimerExpiry => Sys2Proof.Machine.execStabilisationTimerExpiry s
  | .frameTimerExpiry => Sys2Proof.Machine.execFrameTimerExpiry s
  | .tachoFailed t => Sys2Proof.Machine.execTachoFailed t s
  | .tachoDisagree => Sys2Proof.Machine.execTachoDisagree s
  | .tachoAgreementReached => Sys2Proof.Machine.execTachoAgreementReached s
  | .standstillReached => Sys2Proof.Machine.execStandstillReached s
  | .tachoCount t e => Sys2Proof.Machine.execTachoCount t e s
  | .sampleAtPfu => Sys2Proof.Machine.execSampleAtPfu s
  | .beaconMissed => Sys2Proof.Machine.execBeaconMissed s
  | .sampleAtRw => Sys2Proof.Machine.execSampleAtRw s
  | .sampleAtSs => Sys2Proof.Machine.execSampleAtSs s
  | .carryLimitExceeded k => Sys2Proof.Machine.execCarryLimitExceeded k s
  | .conversionCompletion k raw => Sys2Proof.Machine.execConversionCompletion k raw s
  | .trackingError k => Sys2Proof.Machine.execTrackingError k s
  | .drivePeriodStart k => Sys2Proof.Machine.execDrivePeriodStart k s
  | .lockContactChange k lke lkr => Sys2Proof.Machine.execLockContactChange k lke lkr s
  | .centreSensorChange k ctl ctr => Sys2Proof.Machine.execCentreSensorChange k ctl ctr s
  | .homingTimeout k => Sys2Proof.Machine.execHomingTimeout k s
  | .lockStuck k => Sys2Proof.Machine.execLockStuck k s
  | .lockFail k => Sys2Proof.Machine.execLockFail k s
  | .settleFramesReached k => Sys2Proof.Machine.execSettleFramesReached k s
  | .centringTimerExpiry k => Sys2Proof.Machine.execCentringTimerExpiry k s
  | .beaconTelegram id checkGood => Sys2Proof.Machine.execBeaconTelegram id checkGood s
  | .positionCorrection => Sys2Proof.Machine.execPositionCorrection s
  | .beaconMark => Sys2Proof.Machine.execBeaconMark s
  | .presenceTimerExpiry m => Sys2Proof.Machine.execPresenceTimerExpiry m s
  | .offerTimerExpiry => Sys2Proof.Machine.execOfferTimerExpiry s
  | .openingFlag => Sys2Proof.Machine.execOpeningFlag s
  | .supplyLoss => Sys2Proof.Machine.execSupplyLoss s

end Sys2Proof.Machine
end

