-- ==== Sys2Proof/Machine/Tick.lean ====
section
/-! DEFINITION. The passing of time: one bit time of 4 µs, which an idle step stands for (log 3). It moves every timer that
measures ms or bit times; what happens when one has run its time is a command of the table (log 4). -/

namespace Sys2Proof.Machine

/-- A running timer one bit time later; it stands when it has run its loaded time. -/
def Timer.tick (t : Timer) : Timer := { t with elapsed := min (t.elapsed + 1) (msToBitTimes t.loaded) }

/-- The frame timer one bit time later; it stands when it has run its interval. -/
def FrameTimer.tick (t : FrameTimer) : FrameTimer := { t with elapsed := min (t.elapsed + 1) (msToBitTimes t.interval) }

/-- A presence one bit time later (R144). -/
def Presence.tick (p : Presence) : Presence := { p with timer := p.timer.map Timer.tick }

/-- The Arbiter one bit time later (R144). -/
def Aa.tick (a : Aa) : Aa :=
  { a with offer := a.offer.map Timer.tick, p1 := a.p1.tick, p2 := a.p2.tick, p4 := a.p4.tick }

/-- The age of a frame one bit time later, up to the 500 bit times of R173. -/
def ageFrame (age : Nat) : Nat := min (age + 1) Config.replyDeadline

/-- The count of unbroken ones after a bit time in which the line carries this bit (R167), held at the 20 of R173. -/
def onesAfter (bit : Bool) (ones : Nat) : Nat := if bit then min (ones + 1) Config.replyOnes else 0

/-- The Line Interface one bit time later: outside a frame the count of ones by what the line carries, a free value (R167;
log 28), and the frames' ages (R173; log 3). -/
def Li.tick (l : Li) : Li :=
  { l with ones := if l.seesOnes then onesAfter (Config.lineCarriesOne l.bitTime) l.ones else l.ones
           bitTime := l.bitTime + 1
           queue := l.queue.map fun f => { f with age := ageFrame f.age }
           service := l.service.map fun v => { v with age := ageFrame v.age } }

/-- The Odometer one bit time later: while the frame timer runs, it and the reference's age advance (R52, R58); a timer
that has run its interval waits for its expiry, which counts the whole frame (log 5). -/
def Odo.tick (o : Odo) : Odo :=
  match o.timer with
  | none => o
  | some ft =>
    if ft.elapsed < msToBitTimes ft.interval then
      { o with timer := some ft.tick, ref := o.ref.map fun r => { r with age := r.age + 1 } }
    else o

/-- One bit time (R144, R181, R188, R192: no timer runs in SLEEP, in reset or without supply, since all are idle). -/
def tick (s : State) : State :=
  (((s.setLi s.li.tick).setAa s.aa.tick).setOdo s.odo.tick).setCt { s.ct with stab := s.ct.stab.map Timer.tick }

end Sys2Proof.Machine
end

