-- ==== Sys2Proof/Safety.lean ====
section
/-! DEFINITION. What claims about the part speak of: a part that is ready for a request, what receiving and answering a
request leaves, which blocks an operation touches, what a sample's deliveries make of the channels, and the invariants that
every step keeps. -/

namespace Sys2Proof

/-- The requests that need the holder (R160). -/
def Request.needsHolder : Request → Bool
  | .claim => false
  | .release => true
  | .offer _ => true
  | .accept => false
  | .openRoute _ => true
  | .appendSegment _ => true
  | .closeRoute => true
  | .place _ _ => true
  | .speedReference _ _ => false
  | .unlock => true
  | .calibrate _ => true
  | .centreAll => true
  | .hold _ => true
  | .resume => true
  | .clearFaults => true
  | .setConfig _ _ _ => true
  | .setGain _ => true
  | .sleep => true
  | .restart => true
  | .readStatus => false
  | .readPosition => false
  | .readChannel _ => false
  | .readWindow _ => false
  | .readFaults _ => false
  | .badLength _ => false
  | .unknownKind _ => false

end Sys2Proof

namespace Sys2Proof.Machine

/-! ### A part ready for a request -/

/-- The part is on and its receiver runs: it takes frames from the line (R164, R188). -/
abbrev Listening (s : State) : Prop := s.power = .on ∧ s.li.receiver.runs = true

/-- The part listens, with no frame in service and none in the queue: a frame accepted now is dispatched at once (R171). -/
abbrev Ready (s : State) : Prop := Listening s ∧ s.li.service = none ∧ s.li.queue = []

/-- The part is ready, in RUN. -/
abbrev ReadyInRun (s : State) : Prop := Ready s ∧ s.ct.mode = .run

/-- The state at the acceptance of a frame, before any owner takes its request: the frame's flags have left the line
BUSY, its count of ones at 0 and the receiver hunting (R164, R167), and its sender's presence timer, if it has one, is
reloaded (R145). -/
def received (h : Hdr) (s : State) : State :=
  let timeout : Presence := ⟨.present, some ⟨s.ct.table.presenceTimeout, 0⟩⟩
  (s.setLi { s.li with receiver := .hunting, inFrame := false, line := .busy, ones := 0 }).setAa
    (match h.src with
     | .cabA => { s.aa with p1 := timeout }
     | .cabB => { s.aa with p2 := timeout }
     | .brake => s.aa
     | .maint => { s.aa with p4 := timeout })

/-- The state with an addressed request in service, its outcome fixed and its reply not started (R171, R172). -/
def inService (h : Hdr) (req : Request) (result : Result) (items : List Byte) (s : State) : State :=
  s.setLi { s.li with service := some { hdr := h, req := req, age := 0, result := result, items := items, reply := none } }

/-- The items that a refusal by the owner carries: those of APPEND_SEGMENT and SET_CONFIG carry items in every reply of
their owner (R19, R183), every other none. -/
def refusalItems (req : Request) (s : State) : List Byte :=
  match req with
  | .appendSegment _ => windowItems s
  | .setConfig p c _ => configItems p c s
  | _ => []

/-! ### Frames -/

/-- Only the Supervisor's state may differ. -/
def OnlySv (s t : State) : Prop :=
  t.power = s.power ∧ t.li = s.li ∧ t.aa = s.aa ∧ t.rw = s.rw ∧ t.odo = s.odo ∧ t.pfu = s.pfu ∧ t.ss = s.ss ∧
    t.ac = s.ac ∧ t.ct = s.ct ∧ t.path = s.path ∧ t.pending = s.pending

/-- Only the channels' and the Supervisor's state may differ. -/
def OnlyAcSv (s t : State) : Prop :=
  t.power = s.power ∧ t.li = s.li ∧ t.aa = s.aa ∧ t.rw = s.rw ∧ t.odo = s.odo ∧ t.pfu = s.pfu ∧ t.ss = s.ss ∧
    t.ct = s.ct ∧ t.path = s.path ∧ t.pending = s.pending

/-- Of the Supervisor's state, only the fault list, its list-full flag, the notice flags and what it derives may differ:
the hold mode and the isolation latch stand. -/
def KeepsOrders (s t : State) : Prop := t.sv.hold = s.sv.hold ∧ t.sv.latch = s.sv.latch

/-- The fault list holds the records it held, each as it was or ended: none is added, stamped anew or removed, and the
list-full and notice flags stand (R201). -/
def OnlyEnds (s t : State) : Prop :=
  (∃ ended : FaultRecord → Bool,
      t.sv.faults = s.sv.faults.map fun f => if ended f then { f with active := false } else f) ∧
    t.sv.listFull = s.sv.listFull ∧ t.sv.notice = s.sv.notice

/-- The fault list holds the records it held: these ended, and every other one as it was; none is added, stamped anew or
removed, and the list-full and notice flags stand (R201, R206). -/
def Ends (ended : FaultRecord → Bool) (s t : State) : Prop :=
  (t.sv.faults = s.sv.faults.map fun f => if ended f then { f with active := false } else f) ∧
    t.sv.listFull = s.sv.listFull ∧ t.sv.notice = s.sv.notice

/-- The record is that of a fault of the part as a whole: BEACON_MISSED, HORIZON_SHORTFALL and the like (R197). -/
def FaultRecord.isPart (c : FaultCode) (f : FaultRecord) : Bool := f.code == c && f.subject == .none

/-- The record is a channel fault of this channel (R119, R197). -/
def FaultRecord.isOf (k : Chan) (f : FaultRecord) : Bool := channelCodes.contains f.code && f.subject == .chan k

/-- FAULTED, in any phase (R116). -/
def ChanState.isFaulted : ChanState → Bool
  | .faulted _ => true
  | _ => false

/-- The records of the fitted channels that leave FAULTED, as RESTART and the entry to SLEEP make them (R120, R125). -/
def ofFaultedChannel (s : State) (f : FaultRecord) : Bool :=
  Chan.all.any fun k => fitted s k && (s.ac.get k).state.isFaulted && f.isOf k

/-- The records that end with the route: BEACON_MISSED where the miss count stands at 2 or more, HORIZON_SHORTFALL where
its condition is met (R78, R87, R140, R142). -/
def ofOpenRoute (s : State) (f : FaultRecord) : Bool :=
  (decide (2 ≤ s.pfu.miss) && f.isPart .beaconMissed) || (s.sv.shortfall && f.isPart .horizonShortfall)

/-- The fault list, its list-full flag and the notice flags stand. -/
def KeepsFaults (s t : State) : Prop :=
  t.sv.faults = s.sv.faults ∧ t.sv.listFull = s.sv.listFull ∧ t.sv.notice = s.sv.notice

/-- A fault reported in `s` is recorded in `t`: with room in the list, it holds an active record of the code and subject,
stamped with the frame number and the route distance that stood at the report (R197, R199). -/
def Raised (c : FaultCode) (sub : Subject) (s t : State) : Prop :=
  s.sv.faults.length < Config.faultCapacity →
    ∃ f ∈ t.sv.faults, f.code = c ∧ f.subject = sub ∧ f.active = true ∧ f.frame = s.odo.frameNo ∧
      f.distance = if s.pfu.conf = .unplaced then none else some (s.odo.r / 1000)

/-- A channel's fault stands recorded and active in `t`, stamped with the frame number that stood in `s`. -/
def Recorded (c : FaultCode) (k : Chan) (s t : State) : Prop :=
  ∃ r ∈ t.sv.faults, r.code = c ∧ r.subject = .chan k ∧ r.active = true ∧ r.frame = s.odo.frameNo

/-- A running timer or count that its next increment brings to its limit. -/
def Reaches (timer : Option Nat) (limit : Nat) : Prop := ∃ n, timer = some n ∧ limit ≤ n + 1

/-- A target delivery now finds the homing, lock or centring timer of this channel at its limit once it has counted, in the
state and phase that counts it; the centring timer counts where the target is then 0 (R98, R101, R105, R109, R112, R113, R115,
R116). -/
def TimesOut (s : State) (k : Chan) : Prop :=
  let ch := s.ac.get k
  ((ch.state = .homing .assessing ∨ ch.state = .homing .seeking) ∧ Reaches ch.homingT s.ct.table.homingLimit) ∨
    ((ch.state = .homing .engaging ∨ ch.state = .locked ∨ ch.state = .releasing .awaiting ∨ ch.state = .tracking ∨
        ch.state = .holding ∨ ch.state = .centring .engaging ∨ ch.state = .faulted .lockAwaited ∨
        ch.state = .faulted .lockEngaged) ∧ Reaches ch.lockT s.ct.table.lockTime) ∨
    (ch.state = .centring .stepping ∧ ∃ n, ch.centringT = some n ∧
      s.ct.table.homingLimit ≤ if ch.theta.natAbs ≤ (s.ct.table.chan.get k).slew then n + 1 else n)

/-! ### The deliveries of a sample, row by row

Written out from chapter 5 and sections 6.2 and 6.6 in literals, apart from the operations of the model, for the statements to
hold the model against. -/

/-- The timer is running, and its next increment brings it to the limit. -/
def late (timer : Option Nat) (limit : Nat) : Bool :=
  match timer with
  | none => false
  | some n => limit ≤ n + 1

/-- A channel's record with every timer idle. -/
def idle (c : Channel) : Channel := { c with homingT := none, lockT := none, settle := none, centringT := none }

/-- FAULTED in phase lock engaged, where the contact reads ENGAGED and θ is 0, or lock awaited, drive and solenoid off (R102,
R106, R109, R116; log 25). -/
def stuck (c : Channel) : Channel :=
  { idle c with
    state := if c.contact = .engaged ∧ c.theta = 0 then .faulted .lockEngaged else .faulted .lockAwaited
    drive := .off, solenoid := false, lockT := if c.contact = .engaged then none else some 0 }

/-- A homing timer counted: HOMING_TIMEOUT at the homing limit (R98, R102). -/
def homingCounts (s : State) (c : Channel) : ChanStep :=
  if late c.homingT s.ct.table.homingLimit then ⟨stuck c, [.homingTimeout]⟩
  else ⟨{ c with homingT := c.homingT.map (· + 1) }, []⟩

/-- A lock timer counted where ENGAGED is awaited or watched: LOCK_FAIL at the lock time (R101, R113, R115, R116, R118). -/
def engagedCounts (s : State) (c : Channel) : ChanStep :=
  if late c.lockT s.ct.table.lockTime then ⟨{ idle c with state := .faulted .lockFailed, solenoid := false }, [.lockFail]⟩
  else ⟨{ c with lockT := c.lockT.map (· + 1) }, []⟩

/-- A lock timer counted where RELEASED is awaited or watched: LOCK_STUCK at the lock time (R105, R106, R109). -/
def releasedCounts (s : State) (c : Channel) : ChanStep :=
  if late c.lockT s.ct.table.lockTime then ⟨stuck c, [.lockStuck]⟩
  else ⟨{ c with lockT := c.lockT.map (· + 1) }, []⟩

/-- A settle count counted: TRACKING, or HOLDING under a hold mode, at the settle frames (R105, R108, R133). -/
def settles (s : State) (c : Channel) : ChanStep :=
  if late c.settle s.ct.table.settleFrames then
    ⟨{ idle c with state := if s.sv.hold = .none then .tracking else .holding, persist := 0 }, []⟩
  else ⟨{ c with settle := c.settle.map (· + 1) }, []⟩

/-- A centring timer counted at θ 0: at the homing limit TRACKING_ERROR, unless the fault mark is set, and the engaging phase
with the mark, or FAULTED in phase lock engaged where the contact reads ENGAGED already (R111, R112, R113). -/
def centringCounts (s : State) (c : Channel) : ChanStep :=
  if c.theta ≠ 0 then ⟨c, []⟩
  else if late c.centringT s.ct.table.homingLimit then
    ⟨if c.contact = .engaged then
        { idle c with state := .faulted .lockEngaged, mark := false, drive := .off, solenoid := false }
      else { idle c with state := .centring .engaging, mark := true, solenoid := false, lockT := some 0 },
      if c.mark then [] else [.trackingError]⟩
  else ⟨{ c with centringT := c.centringT.map (· + 1) }, []⟩

/-- What its own delivery of the scheduled angle `v` makes of channel k's record, and the faults it raises: the target by the
state's rule, then the timer of its phase (R45, R91, R93, R97, R98, R101, R105, R109, R112, R113, R115, R116, R118, R132). -/
def delivered (s : State) (k : Chan) (v : Int) (c : Channel) : ChanStep :=
  let slew := (s.ct.table.chan.get k).slew
  let base : Channel := { c with sched := v, conv := if c.conv = .none then .inFlight false else c.conv }
  let zero : Channel := { base with theta := 0 }
  let near : Bool := c.theta.natAbs ≤ slew
  let stepped : Channel :=
    { base with theta := if near then 0 else if 0 < c.theta then c.theta - slew else c.theta + slew }
  let engages : Bool := c.contact = .engaged ∧ near
  let engaged : Channel := { stepped with state := .faulted .lockEngaged, drive := .off, lockT := none }
  match c.state with
  | .absent => ⟨base, []⟩
  | .unhomed => ⟨zero, []⟩
  | .homing .assessing => homingCounts s zero
  | .homing .seeking => homingCounts s zero
  | .homing .engaging => engagedCounts s zero
  | .homing .capturing => ⟨zero, []⟩
  | .locked => engagedCounts s zero
  | .releasing .awaiting => releasedCounts s zero
  | .releasing .settling => settles s zero
  | .tracking =>
    match s.sv.hold with
    | .none => releasedCounts s { base with theta := v }
    | .immediate => releasedCounts s { base with state := .holding }
    | .atCentre => releasedCounts s { stepped with state := if near then .holding else .tracking }
  | .holding => releasedCounts s base
  | .centring .stepping => centringCounts s stepped
  | .centring .engaging => engagedCounts s stepped
  | .faulted .lockAwaited => if engages then ⟨engaged, []⟩ else engagedCounts s stepped
  | .faulted .lockEngaged => engagedCounts s stepped
  | .faulted .lockFailed => if engages then ⟨engaged, []⟩ else ⟨stepped, []⟩

/-- A channel in RELEASING, TRACKING or HOLDING that a centring order reaches; any other as it was (R110, R128). -/
def centred (c : Channel) : Channel :=
  match c.state with
  | .releasing _ => { idle c with state := .centring .stepping, mark := false, persist := 0, centringT := some 0 }
  | .tracking => { idle c with state := .centring .stepping, mark := false, persist := 0, centringT := some 0 }
  | .holding => { idle c with state := .centring .stepping, mark := false, persist := 0, centringT := some 0 }
  | _ => c

/-- The four records after the delivery to channel k: its own, if it is fitted, its partner's centred where it is FAULTED, or in
CENTRING with the fault mark, and every channel's on a LOCK_FAIL (R29, R129, R138). -/
def afterDelivery (s : State) (k : Chan) (v : Int) (q : Quad Channel) : Quad Channel :=
  if fitted s k then
    let own := delivered s k v (q.get k)
    let calls : Bool := match own.ch.state with
      | .faulted _ => true
      | .centring _ => own.ch.mark
      | _ => false
    Quad.build fun i =>
      let c := (q.set k own.ch).get i
      if own.faults = [.lockFail] ∨ i = k.partner ∧ calls then centred c else c
  else q


/-! ### Invariants -/

/-- The curvature and cap fields of a record's kind, as R4 admits them. -/
def Geometry.Valid : Geometry → Prop
  | .straight => True
  | .arc κ => κ.natAbs ≤ 125000
  | .spiral κ κ' => κ.natAbs ≤ 125000 ∧ κ'.natAbs ≤ 125000
  | .junction κ cap => κ.natAbs ≤ 125000 ∧ cap ≤ 800

/-- A segment record as R3, R4 and R20 admit it. -/
def Segment.Valid (g : Segment) : Prop :=
  g.index < Config.wrap16 ∧ 100 ≤ g.length ∧ g.length ≤ 500000 ∧ g.geo.Valid ∧
    (match g.beacon with
     | none => True
     | some b => 1 ≤ b.id ∧ b.id ≤ 65535 ∧ b.offset < g.length)

/-- Records carry consecutive indices, modulo 65,536, up to the one before `next` (R8). -/
def IndexedUpTo (next : Nat) : List Segment → Prop
  | [] => True
  | g :: gs => g.index = (next + Config.wrap16 - (gs.length + 1)) % Config.wrap16 ∧ IndexedUpTo next gs

/-- The window (R6 to R8, R24, R26, R72): at most 48 valid records, contiguous from the rear boundary to the front, indexed
consecutively; a closed window stands as R26 gives it; and the confidence is UNPLACED exactly while no route is open. -/
def WindowInv (s : State) : Prop :=
  s.rw.segs.length ≤ Config.windowCapacity ∧ (∀ g ∈ s.rw.segs, Segment.Valid g) ∧
    s.rw.front = s.rw.rear + totalLength s.rw.segs ∧ s.rw.front ≤ Config.frontMax ∧
    s.rw.next < Config.wrap16 ∧ IndexedUpTo s.rw.next s.rw.segs ∧
    (s.rw.isOpen = false → s.rw = Rw.reset) ∧ (s.pfu.conf = .unplaced ↔ s.rw.isOpen = false)

/-- The subject that a fault code's records carry (R197, R198). -/
def FaultCode.takes (c : FaultCode) : Subject → Bool
  | .chan _ => channelCodes.contains c
  | .tacho _ => c == .tachoFailed
  | .none => !channelCodes.contains c && c != .tachoFailed

/-- The fault list (R197, R198, R200): at most 16 records, at most one for any code and subject, each with a subject of its
code's kind; and the list-full flag stands only over a full list. -/
def FaultInv (s : State) : Prop :=
  s.sv.faults.length ≤ Config.faultCapacity ∧
    s.sv.faults.Pairwise (fun f g => ¬(f.code = g.code ∧ f.subject = g.subject)) ∧
    (∀ f ∈ s.sv.faults, f.code.takes f.subject = true) ∧
    (s.sv.listFull = true → s.sv.faults.length = Config.faultCapacity)

/-- Authority (R143, R144, R163): never the brake controller's, never offered to the holder, with the offer timer running
exactly in OFFERED; VACANT outside RUN; and in a part that is on a master is PRESENT exactly while its timer runs. -/
def AuthorityInv (s : State) : Prop :=
  (match s.aa.auth with
   | .vacant => s.aa.offer = none
   | .held m => m ≠ .brake ∧ s.aa.offer = none
   | .offered m n => m ≠ .brake ∧ n ≠ .brake ∧ m ≠ n ∧ s.aa.offer.isSome = true) ∧
    (s.ct.mode ≠ .run → s.aa.auth = .vacant) ∧
    (s.power = .on → ∀ p ∈ [s.aa.p1, s.aa.p2, s.aa.p4], (p.state = .present ↔ p.timer.isSome = true))

/-- Bogie pairing and the isolation latch (R130, R139): while a channel is FAULTED, or centring with its fault mark set, its
partner is in none of the released states; and while the latch is set no channel is. -/
def BogieInv (s : State) : Prop :=
  (∀ k, callsPartnerRule (s.ac.get k) = true → (s.ac.get k.partner).state.released = false) ∧
    (s.sv.latch = true → ∀ k, (s.ac.get k).state.released = false)

/-- A state and phase whose target is 0 (R91, R97, R111, R113, R116). -/
def ChanState.targetIsZero : ChanState → Bool
  | .absent => true
  | .unhomed => true
  | .homing _ => true
  | .locked => true
  | .releasing _ => true
  | .tracking => false
  | .holding => false
  | .centring .stepping => false
  | .centring .engaging => true
  | .faulted .lockAwaited => false
  | .faulted .lockEngaged => true
  | .faulted .lockFailed => false

/-- A channel's target (R91, R97, R112): 0 in the states that say so, 0 once the centring timer has counted, and within the
channel's angle limit. -/
def Channel.TargetInv (limit : Nat) (ch : Channel) : Prop :=
  (ch.state.targetIsZero = true → ch.theta = 0) ∧
    (ch.state = .centring .stepping → ch.centringT ≠ none → ch.centringT ≠ some 0 → ch.theta = 0) ∧
    ch.theta.natAbs ≤ limit

/-- The targets (R97, R123, R124, R125, R195): each channel's target as above; a channel is ABSENT exactly while it is not
fitted; outside RUN every fitted channel is UNHOMED; and while a mode change is pending its request is in service, with
every fitted channel LOCKED or FAULTED at target 0. -/
def TargetInv (s : State) : Prop :=
  (∀ k, (s.ac.get k).TargetInv (s.ct.table.chan.get k).angleLimit) ∧
    (∀ k, (s.ac.get k).state = .absent ↔ fitted s k = false) ∧
    (s.ct.mode ≠ .run → ∀ k, fitted s k = true → (s.ac.get k).state = .unhomed) ∧
    (s.ct.pendingMode ≠ .none → s.li.service.isSome = true ∧
      ∀ k, fitted s k = true → (s.ac.get k).state.lockedOrFaulted = true ∧ (s.ac.get k).theta = 0) ∧
    1 ≤ s.ct.table.homingLimit

/-- Every parameter lies in its range (R182), and the set gain in 0 to 100 (R181). -/
def ConfigInv (s : State) : Prop := (∀ p : ParamRef, p.admits (p.get s.ct.table) = true) ∧ s.ct.gain ≤ 100

/-- A lookup answer as the Route Window gives it: the record covers the point, and its fields are as R4 admits them (R9,
R12). -/
def Covering.Valid (x : Int) (c : Covering) : Prop := (c.start : Int) ≤ x ∧ x < c.start + c.length ∧ c.geo.Valid

/-- What is handed over for one channel: each lookup answer inside the window covers its point (R12). -/
def HandEntry.Valid (e : HandEntry) : Prop :=
  ∀ pts, e.points = some pts → (∀ c, pts.atP = some c → c.Valid pts.p) ∧ (∀ c, pts.atQ = some c → c.Valid pts.q)

/-- The duties of a drive stage lie in −1000 to 1000 ‰ (R90, R95). -/
def Drive.inRange : Drive → Prop
  | .off => True
  | .energised applied waiting => applied.natAbs ≤ 1000 ∧ ∀ d, waiting = some d → d.natAbs ≤ 1000

/-- A channel's record within the ranges of R90: scheduled angle, zero code, persistence count, timers and duties; its
target is bounded by TargetInv. -/
def Channel.RangeInv (ch : Channel) : Prop :=
  ch.sched.natAbs ≤ 800 ∧ ch.z ≤ 4095 ∧ ch.persist ≤ 100 ∧
    (∀ timer ∈ [ch.homingT, ch.lockT, ch.settle, ch.centringT], ∀ n, timer = some n → n ≤ 1000) ∧ ch.drive.inRange

/-- Counters and positions within the bounds that the spec gives them (R28, R35, R52, R71, R90, R167, R170), the carried
curvatures with the hand-overs they are taken from; and a report of a standing disagreement or miss count has been made
exactly while it stands (R64, R78). -/
def RangeInv (s : State) : Prop :=
  (s.odo.disagreeTold = true ↔ s.odo.disagree = Config.streakLimit) ∧
    (s.pfu.missTold = true ↔ Config.missLimit ≤ s.pfu.miss) ∧
    (∀ k, (s.ac.get k).RangeInv) ∧ (∀ k, (s.ss.get k).carried.natAbs ≤ 125000) ∧
    (∀ h ∈ s.path.atSs, ∀ k, (h.entries.get k).Valid) ∧ s.li.ones ≤ Config.replyOnes ∧
    s.odo.r ≤ Config.routeEnd ∧ s.odo.frameNo < Config.wrap16 ∧ s.odo.disagree ≤ Config.streakLimit ∧
    s.odo.agree ≤ Config.streakLimit ∧ s.odo.failure.t1 < Config.failureLimit ∧ s.odo.failure.t2 < Config.failureLimit ∧
    s.odo.quiet ≤ Config.quietMax ∧ s.pfu.u ≤ Config.uncertaintyMax ∧ s.pfu.miss ≤ Config.missMax ∧
    (∀ k, (s.ss.get k).carry ≤ Config.carryMax) ∧ s.li.queue.length ≤ Config.queueDepth

/-- What the Supervisor has been told is what stands, and what it derives is what R136, R137 and R140 give for it (R91,
R126, R127). The schedule reports no source of a channel that is not fitted (R28). -/
def ViewInv (s : State) : Prop :=
  (∀ k, (s.sv.view.get k).state = (s.ac.get k).state ∧ (s.sv.view.get k).mark = (s.ac.get k).mark) ∧
    (∀ k, fitted s k = true → (s.sv.view.get k).source = (s.ss.get k).source) ∧
    s.sv.routeOpen = s.rw.isOpen ∧ s.sv.conf = s.pfu.conf ∧
    s.sv.steering = steeringModeOf s.ct.table s.sv.view ∧
    s.sv.level = levelOf s.ct.table s.sv.view s.sv.latch ∧
    s.sv.shortfall = shortfallOf s.ct.table s.sv.view s.sv.routeOpen s.sv.conf

/-- The Line Interface of a part that is on (R164, R167, R170, R171, R180): no frame waits while none is in service, the
queue holds at most three, SLEEP holds no frame, the receiver is stopped exactly in SLEEP and during the part's own reply,
reception is inside a frame, inside a frame the line is BUSY with no ones counted, and a wake's wait is over once it is FREE. -/
def LineInv (s : State) : Prop :=
  s.power = .on →
    (s.li.service = none → s.li.queue = []) ∧ s.li.queue.length ≤ Config.queueDepth ∧
    (s.ct.mode = .sleep → s.li.service = none) ∧
    (s.li.receiver = .stopped ↔
      s.ct.mode = .sleep ∨ (s.li.service.bind fun v => v.reply).isSome = true) ∧
    (s.li.receiver = .receiving → s.li.inFrame = true) ∧ (s.li.inFrame = true → s.li.line = .busy ∧ s.li.ones = 0) ∧
    (s.li.receiver = .waiting → s.li.line = .busy)

/-- Everything above together: the premise under which each part of it is kept by every step. -/
def Inv (s : State) : Prop :=
  WindowInv s ∧ FaultInv s ∧ AuthorityInv s ∧ BogieInv s ∧ TargetInv s ∧ ConfigInv s ∧ RangeInv s ∧ ViewInv s ∧ LineInv s

end Sys2Proof.Machine
end

