-- ==== Sys2Proof/WellFormed.lean ====
section
/-! DEFINITION. Which commands are well formed: every operand fits the width of the field, register or input that carries
it (sections 12.3, 12.4, 12.8; R90, R164). A value out of a rule's own range is NOT ill formed: the part judges it. -/

namespace Sys2Proof

/-- The value fits an unsigned field of so many bytes (R208). -/
def fitsU (bytes n : Nat) : Bool := n < 256 ^ bytes

/-- The value fits a signed (two's complement) field of so many bytes (R208). -/
def fitsS (bytes : Nat) (v : Int) : Bool :=
  -(2 ^ (8 * bytes - 1) : Int) ≤ v && v < (2 ^ (8 * bytes - 1) : Int)

/-- The longest run of ones at the front of a list of bits, counted from `n`, is never more than five anywhere: what
zero insertion leaves between two flags (R164). -/
def noSixOnesFrom : Nat → List Bool → Bool
  | _, [] => true
  | _, false :: bs => noSixOnesFrom 0 bs
  | n, true :: bs => n < 5 && noSixOnesFrom (n + 1) bs

/-- No six consecutive ones (R164). -/
def noSixOnes (bits : List Bool) : Bool := noSixOnesFrom 0 bits

/-- The fields of OPEN_ROUTE fit their widths. -/
def OpenRouteFields.fits (f : OpenRouteFields) : Bool :=
  fitsU 1 f.lead && fitsU 4 f.r0 && fitsU 2 f.firstIndex && fitsU 4 f.rRef && fitsU 2 f.u0

/-- The fields of a segment record fit their widths. -/
def SegmentFields.fits (f : SegmentFields) : Bool :=
  fitsU 2 f.index && fitsU 1 f.kind && fitsU 1 f.marker && fitsU 4 f.length && fitsS 4 f.kStart && fitsS 4 f.kEnd &&
    fitsU 2 f.cap && fitsU 2 f.beaconId && fitsU 4 f.beaconOffset

/-- A command is well formed. -/
def Instr.wellFormed : Instr → Bool
  | .openRoute _ f => f.fits
  | .appendSegment _ f => f.fits
  | .closeRoute _ => true
  | .speedReference _ v flags => fitsS 2 v && fitsU 1 flags
  | .place _ rRef u => fitsU 4 rRef && fitsU 2 u
  | .unlock _ => true
  | .centreAll _ => true
  | .calibrate _ c => fitsU 1 c
  | .hold _ m => fitsU 1 m
  | .resume _ => true
  | .claim _ => true
  | .release _ => true
  | .offer _ t => fitsU 1 t
  | .accept _ => true
  | .readStatus _ => true
  | .readPosition _ => true
  | .readChannel _ c => fitsU 1 c
  | .readWindow _ i => fitsU 1 i
  | .readFaults _ p => fitsU 1 p
  | .setConfig _ p c v => fitsU 1 p && fitsU 1 c && fitsS 4 v
  | .setGain _ g => fitsU 1 g
  | .sleep _ => true
  | .restart _ => true
  | .clearFaults _ => true
  | .frameClosed bits => noSixOnes bits
  | .frameAbort => true
  | .lineFree => true
  | .replyStart => true
  | .endOfService => true
  | .replyDrop => true
  | .wake => true
  | .resetAsserted => true
  | .powerOnReset straps _ => straps < 8
  | .stabilisationTimerExpiry => true
  | .frameTimerExpiry => true
  | .tachoFailed _ => true
  | .tachoDisagree => true
  | .tachoAgreementReached => true
  | .standstillReached => true
  | .tachoCount _ _ => true
  | .sampleAtPfu => true
  | .beaconMissed => true
  | .sampleAtRw => true
  | .sampleAtSs => true
  | .carryLimitExceeded _ => true
  | .conversionCompletion _ raw => raw < 4096
  | .trackingError _ => true
  | .drivePeriodStart _ => true
  | .lockContactChange _ _ _ => true
  | .centreSensorChange _ _ _ => true
  | .homingTimeout _ => true
  | .lockStuck _ => true
  | .lockFail _ => true
  | .settleFramesReached _ => true
  | .centringTimerExpiry _ => true
  | .beaconTelegram id _ => fitsU 2 id
  | .positionCorrection => true
  | .beaconMark => true
  | .presenceTimerExpiry m => m != .brake
  | .offerTimerExpiry => true
  | .openingFlag => true
  | .supplyLoss => true

end Sys2Proof
end

