-- ==== Sys2Proof/Certificates/Slice0/Obligations.lean ====
section
/-! DEFINITION. The statements for the provers, one definition each. -/

open Sys2Proof Sys2Proof.Machine

/-! ### The step -/

/-- One step takes the command at the front of the queue and runs its meaning on the state with the queue's rest. -/
def Obligations.StepRunsFrontCommand : Prop :=
  ∀ (c : Instr) (rest : List Instr) (s : State), s.pending = c :: rest → step s = exec c (s.setPending rest)

/-- The model's choice (log 3, 4, 5, 28): a step on an empty queue is one bit time of 4 µs. The presence, offer and stabilisation
timers and the frame timer with the reference's age advance by one up to the time they were loaded with and stand there, the
ages of the queued frames and of the frame in service advance up to 500, outside a frame the count of the line's unbroken
ones goes on, up to 20, or starts again, as the line carries a one in that bit time or not, which is a free value, the
number of the bit time advances by one, and everything else in the part stands; without power, or in reset, nothing changes. -/
def Obligations.IdleStepIsOneBitTime : Prop :=
  ∀ s : State, s.pending = [] →
    (s.power ≠ .on → step s = .next s) ∧
    (s.power = .on → ∃ t, step s = .next t ∧
      (let runs (before after : Option Timer) : Prop :=
        (before = none → after = none) ∧
          ∀ tm, before = some tm →
            (tm.elapsed < tm.loaded * 250 → after = some ⟨tm.loaded, tm.elapsed + 1⟩) ∧
            (tm.elapsed = tm.loaded * 250 → after = some tm)
       runs s.ct.stab t.ct.stab ∧ runs s.aa.offer t.aa.offer ∧ runs s.aa.p1.timer t.aa.p1.timer ∧
        runs s.aa.p2.timer t.aa.p2.timer ∧ runs s.aa.p4.timer t.aa.p4.timer) ∧
      (s.odo.timer = none → t.odo = s.odo) ∧
      (∀ ft, s.odo.timer = some ft →
        (ft.elapsed < ft.interval * 250 →
          t.odo = { s.odo with timer := some ⟨ft.interval, ft.elapsed + 1⟩,
                               ref := s.odo.ref.map fun r => { r with age := r.age + 1 } }) ∧
        (ft.interval * 250 ≤ ft.elapsed → t.odo = s.odo)) ∧
      t.li = { s.li with
        ones := if (s.li.receiver = .hunting ∨ s.li.receiver = .waiting) ∧ s.li.inFrame = false then
            if Config.lineCarriesOne s.li.bitTime = true then min (s.li.ones + 1) 20 else 0
          else s.li.ones
        bitTime := s.li.bitTime + 1
        queue := s.li.queue.map fun f => { f with age := min (f.age + 1) 500 }
        service := s.li.service.map fun v => { v with age := min (v.age + 1) 500 } } ∧
      t.aa.auth = s.aa.auth ∧ t.aa.p1.state = s.aa.p1.state ∧ t.aa.p2.state = s.aa.p2.state ∧
      t.aa.p4.state = s.aa.p4.state ∧ t.ct = { s.ct with stab := t.ct.stab } ∧ t.rw = s.rw ∧ t.pfu = s.pfu ∧
      t.ss = s.ss ∧ t.ac = s.ac ∧ t.sv = s.sv ∧ t.path = s.path ∧ t.pending = [] ∧ t.power = .on)

/-! ### Requests, all kinds -/

/-- In WAKING every addressed request that is not a read is answered NOT_READY and changes nothing (R171, R189). The
model's choices in it: log 1. -/
def Obligations.WakingAnswersNotReady : Prop :=
  ∀ (i : Instr) (h : Hdr) (req : Request) (k : Kind) (s : State),
    Ready s → s.ct.mode = .waking → i.asRequest = some (h, req) → req.kind = some k → k.isRead = false →
    h.dest = .addressed → exec i s = .next (inService h req .notReady [] (received h s))

/-- Each request of the table of R160 from a master that does not hold authority is answered NOT_HOLDER, before every
other check of its owner, and changes nothing. The model's choices in it: log 1. -/
def Obligations.HolderRequestsNeedTheHolder : Prop :=
  ∀ (i : Instr) (h : Hdr) (req : Request) (s : State),
    ReadyInRun s → i.asRequest = some (h, req) → req.needsHolder = true → h.dest = .addressed →
    s.aa.auth.heldBy h.src = false →
    exec i s = .next (inService h req .notHolder (refusalItems req s) (received h s))

/-- A request that is refused changes nothing but the presence of its sender and the service: whatever the kind, a
result other than OK leaves every block as it was (R172 and each owner's rule). The model's choices in it: log 1. -/
def Obligations.RefusedRequestChangesNothing : Prop :=
  ∀ (i : Instr) (h : Hdr) (req : Request) (s : State),
    ReadyInRun s → i.asRequest = some (h, req) → h.dest = .addressed →
    ∃ result items t, exec i s = .next (inService h req result items t) ∧ (result ≠ .ok → t = received h s)

/-- The holder's requests that need standstill are answered NOT_STANDSTILL while the vehicle moves (R16, R121, R151,
R183, R190, R193, R203). The model's choices in it: log 1. -/
def Obligations.MovingVehicleRefusesStandstillRequests : Prop :=
  ∀ (h : Hdr) (s : State), ReadyInRun s → h.dest = .addressed → s.aa.auth.heldBy h.src = true →
    s.odo.standstill = .moving →
    (∀ f, exec (.openRoute h f) s = .next (inService h (.openRoute f) .notStandstill [] (received h s))) ∧
    (∀ n, exec (.offer h n) s = .next (inService h (.offer n) .notStandstill [] (received h s))) ∧
    (∀ n k, chanOf n = some k →
      exec (.calibrate h n) s = .next (inService h (.calibrate n) .notStandstill [] (received h s))) ∧
    (∀ p c v, exec (.setConfig h p c v) s =
      .next (inService h (.setConfig p c v) .notStandstill (configItems p c s) (received h s))) ∧
    exec (.sleep h) s = .next (inService h .sleep .notStandstill [] (received h s)) ∧
    exec (.restart h) s = .next (inService h .restart .notStandstill [] (received h s)) ∧
    exec (.clearFaults h) s = .next (inService h .clearFaults .notStandstill [] (received h s))

/-- A broadcast goes to its owner only as SPEED_REFERENCE from the brake controller, or as SET_GAIN, HOLD or RESUME
from another master, and in RUN alone; every other broadcast, and in WAKING each of them, is dropped, its sender's
presence being all that changes; and none is answered (R131, R134, R169, R171, R186, R189). The model's choices in it:
log 1. -/
def Obligations.BroadcastsFilteredByKindAndSource : Prop :=
  ∀ (i : Instr) (h : Hdr) (req : Request) (s : State),
    Ready s → i.asRequest = some (h, req) → h.dest = .broadcast →
    (s.ct.mode = .waking → exec i s = .next (received h s)) ∧
    (s.ct.mode = .run → exec i s = .next
      (if (req.kind = some .speedReference ∧ h.src = .brake) ∨
          ((req.kind = some .setGain ∨ req.kind = some .hold ∨ req.kind = some .resume) ∧ h.src ≠ .brake)
       then (ownerTakes h.src req (received h s)).state else received h s))

/-- A frame accepted while one is in service, addressed or a broadcast that passes the filter of R169, joins the tail
of the queue when that holds fewer than three, and is otherwise discarded with the overrun flag set; a broadcast that
does not pass is dropped. Each way its sender's presence is reloaded and nothing else changes (R145, R169, R170). The
model's choices in it: log 1. -/
def Obligations.FrameWaitsBehindTheServiceOrIsLost : Prop :=
  ∀ (i : Instr) (h : Hdr) (req : Request) (s : State),
    Listening s → s.li.service.isSome = true → i.asRequest = some (h, req) →
    exec i s = .next
      (if h.dest = .addressed ∨ (req.kind = some .speedReference ∧ h.src = .brake) ∨
          ((req.kind = some .setGain ∨ req.kind = some .hold ∨ req.kind = some .resume) ∧ h.src ≠ .brake) then
        if s.li.queue.length < 3
        then (received h s).setLi { (received h s).li with queue := s.li.queue ++ [{ hdr := h, req := req, age := 0 }] }
        else (received h s).setLi { (received h s).li with overrun := true }
       else received h s)

/-! ### Steering authority -/

/-- CLAIM in RUN is decided by the first row of R148 that holds; a claim that finds VACANT makes its sender the holder
and reports HOLDER_SILENT inactive (R158), and every other row leaves the part as it was. The model's choices in it:
log 1. -/
def Obligations.ClaimDecidedByFirstRow : Prop :=
  ∀ (h : Hdr) (s : State), ReadyInRun s → h.dest = .addressed →
    (h.src = .brake → exec (.claim h) s = .next (inService h .claim .notPermitted [] (received h s))) ∧
    (h.src ≠ .brake → s.aa.auth.heldBy h.src = true →
      exec (.claim h) s = .next (inService h .claim .ok [] (received h s))) ∧
    (h.src ≠ .brake → s.aa.auth.heldBy h.src = false → s.aa.auth ≠ .vacant →
      exec (.claim h) s = .next (inService h .claim .heldElsewhere [] (received h s))) ∧
    (h.src = .maint → s.aa.auth = .vacant → s.odo.standstill = .moving →
      exec (.claim h) s = .next (inService h .claim .notStandstill [] (received h s))) ∧
    (h.src ≠ .brake → s.aa.auth = .vacant → (h.src = .maint → s.odo.standstill = .standstill) →
      exec (.claim h) s = .next (inService h .claim .ok []
        (reportInactive .holderSilent .none ((received h s).setAa { (received h s).aa with auth := .held h.src }))))

/-- RELEASE from the holder makes the authority VACANT and the offer timer idle, at any speed and with no fault; from
any other sender it is refused; it is not taken by broadcast, and in WAKING it is answered NOT_READY (R150). The
model's choices in it: log 1. -/
def Obligations.ReleaseVacatesAuthority : Prop :=
  ∀ (h : Hdr) (s : State), Ready s →
    (h.dest = .addressed → s.ct.mode = .run → s.aa.auth.heldBy h.src = true →
      exec (.release h) s = .next (inService h .release .ok []
        ((received h s).setAa { (received h s).aa with auth := .vacant, offer := none }))) ∧
    (h.dest = .addressed → s.ct.mode = .run → s.aa.auth.heldBy h.src = false →
      exec (.release h) s = .next (inService h .release .notHolder [] (received h s))) ∧
    (h.dest = .broadcast → exec (.release h) s = .next (received h s)) ∧
    (h.dest = .addressed → s.ct.mode = .waking →
      exec (.release h) s = .next (inService h .release .notReady [] (received h s)))

/-- An OFFER from the holder at standstill to another master that is PRESENT opens or replaces the offer, with the
timer started anew at the configured timeout; a target that is no such master is refused BAD_VALUE (R151, R152).
ACCEPT from the target of a standing offer makes it the holder and the offer timer idle; every other ACCEPT is
answered NO_OFFER (R153). The model's choices in it: log 1. -/
def Obligations.OfferAndAccept : Prop :=
  ∀ (h : Hdr) (s : State), ReadyInRun s → h.dest = .addressed →
    (∀ target, s.aa.auth.heldBy h.src = true → s.odo.standstill = .standstill →
      (∀ n : Master, n.address = target → n ≠ .brake → n ≠ h.src → s.aa.isPresent n = true →
        exec (.offer h target) s = .next (inService h (.offer target) .ok []
          ((received h s).setAa { (received h s).aa with
            auth := .offered h.src n, offer := some ⟨s.ct.table.offerTimeout, 0⟩ }))) ∧
      ((∀ n : Master, n.address = target → n = .brake ∨ n = h.src ∨ s.aa.isPresent n = false) →
        exec (.offer h target) s = .next (inService h (.offer target) .badValue [] (received h s)))) ∧
    (∀ m, s.aa.auth = .offered m h.src →
      exec (.accept h) s = .next (inService h .accept .ok []
        ((received h s).setAa { (received h s).aa with auth := .held h.src, offer := none }))) ∧
    ((∀ m, s.aa.auth ≠ .offered m h.src) →
      exec (.accept h) s = .next (inService h .accept .noOffer [] (received h s)))

/-- A running presence timer's expiry makes its master SILENT and the timer idle. The silence of the holder makes the
authority VACANT, ends an offer and raises HOLDER_SILENT; the silence of the offer target returns the offer to its
holder; any other silence does no more. An idle timer does not expire (R146, R156, R157). The model's choices in it:
log 4. -/
def Obligations.PresenceExpiryByWhoFellSilent : Prop :=
  ∀ (m : Master) (s : State), s.power = .on →
    ((∀ p tm, s.aa.presence m = some ⟨p, some tm⟩ →
      (s.aa.auth.heldBy m = true →
        exec (.presenceTimerExpiry m) s = .next (raiseFault .holderSilent .none
          (s.setAa { s.aa.setPresence m ⟨.silent, none⟩ with auth := .vacant, offer := none }))) ∧
      (∀ h, h ≠ m → s.aa.auth = .offered h m →
        exec (.presenceTimerExpiry m) s =
          .next (s.setAa { s.aa.setPresence m ⟨.silent, none⟩ with auth := .held h, offer := none })) ∧
      (s.aa.auth.heldBy m = false → (∀ h, s.aa.auth ≠ .offered h m) →
        exec (.presenceTimerExpiry m) s = .next (s.setAa (s.aa.setPresence m ⟨.silent, none⟩)))) ∧
     ((∀ p tm, s.aa.presence m ≠ some ⟨p, some tm⟩) → exec (.presenceTimerExpiry m) s = .next s))

/-- The offer timer's expiry in OFFERED returns the authority to the holder and makes the timer idle; after it an
ACCEPT of the target finds no offer, and after the ACCEPT the expiry does nothing (R154). The model's choices in it:
log 1, 4. -/
def Obligations.OfferExpiryAndAcceptInEitherOrder : Prop :=
  ∀ (m n : Master) (tm : Timer) (s : State), s.power = .on → s.aa.auth = .offered m n → s.aa.offer = some tm →
    exec .offerTimerExpiry s = .next (s.setAa { s.aa with auth := .held m, offer := none }) ∧
    (ReadyInRun s → ∀ t, exec .offerTimerExpiry s = .next t →
      exec (.accept ⟨n, .addressed⟩) t =
        .next (inService ⟨n, .addressed⟩ .accept .noOffer [] (received ⟨n, .addressed⟩ t))) ∧
    (ReadyInRun s → ∀ t, exec (.accept ⟨n, .addressed⟩) s = .next t →
      t.aa.auth = .held n ∧ t.aa.offer = none ∧ exec .offerTimerExpiry t = .next t)

/-! ### The route and the position -/

/-- An accepted OPEN_ROUTE empties the window and sets its origin, leading end and first index, places the vehicle at
r_ref with U0 and a miss count of 0, reports POSITION_CONFLICT and a standing BEACON_MISSED inactive, voids what is on
its way for the old route, negates the carried curvatures if the leading end changes, and is answered with the next
expected index and the count 0 (R16 to R18, R37, R69, R87). The model's choices in it: log 1. -/
def Obligations.OpenRouteStartsARoute : Prop :=
  ∀ (h : Hdr) (f : OpenRouteFields) (lead : VehicleEnd) (s : State),
    ReadyInRun s → h.dest = .addressed → s.aa.auth.heldBy h.src = true → s.odo.standstill = .standstill →
    leadOf f.lead = some lead → f.r0 ≤ 999999999 → f.firstIndex ≤ 65535 → f.rRef ≤ 999999999 → f.u0 ≤ 65535 →
    ∃ t, exec (.openRoute h f) s =
        .next (inService h (.openRoute f) .ok (beBytes 2 f.firstIndex ++ beBytes 1 0) t) ∧
      t.rw = { isOpen := true, lead := lead, rear := f.r0, front := f.r0, next := f.firstIndex, segs := [],
               horizonLow := false } ∧
      t.odo = { s.odo with r := f.rRef * 1000 } ∧
      t.pfu = { s.pfu with conf := if f.u0 ≤ s.ct.table.uMax then .placed else .drifted, u := f.u0 * 1000, miss := 0,
                           missTold := false, marks := [] } ∧
      (∀ k, t.ss.get k =
        if s.rw.lead = lead then s.ss.get k else { s.ss.get k with carried := -(s.ss.get k).carried }) ∧
      (∀ g ∈ t.sv.faults, g.code = .positionConflict → g.subject = .none → g.active = false) ∧
      (2 ≤ s.pfu.miss → ∀ g ∈ t.sv.faults, g.code = .beaconMissed → g.subject = .none → g.active = false) ∧
      t.path = { s.path with corrections := s.path.corrections.map fun c => { c with isVoid := true },
                             marks := s.path.marks.map fun m => { m with isVoid := true } } ∧
      t.sv.routeOpen = true ∧ t.sv.conf = t.pfu.conf ∧ t.sv.hold = s.sv.hold ∧ t.sv.latch = s.sv.latch ∧
      (ViewInv s → (∀ k, (s.ac.get k).state ≠ .tracking ∧ (s.ac.get k).state ≠ .holding) →
        Ends (fun f => f.isPart .positionConflict || (decide (2 ≤ s.pfu.miss) && f.isPart .beaconMissed)) s t) ∧
      t.ac = s.ac ∧ t.ct = s.ct ∧ t.li = (received h s).li ∧ t.aa = (received h s).aa ∧ t.pending = s.pending

/-- OPEN_ROUTE from the holder at standstill with a field out of its range is answered BAD_VALUE, and APPEND_SEGMENT
and PLACE are refused by their checks in order; a segment is refused BAD_VALUE for a kind that is none of the four,
for presence bits that are not those of its kind, for marker bits 4 to 7, for a length, curvature, cap or beacon out
of its range, and for a front beyond the route (R16, R19, R20, R85, R209). The model's choices in it: log 1. -/
def Obligations.RouteRequestsRefusedInOrder : Prop :=
  ∀ (h : Hdr) (s : State), ReadyInRun s → h.dest = .addressed → s.aa.auth.heldBy h.src = true →
    (∀ f, s.odo.standstill = .standstill →
      (leadOf f.lead = none ∨ 999999999 < f.r0 ∨ 65535 < f.firstIndex ∨ 999999999 < f.rRef ∨ 65535 < f.u0) →
      exec (.openRoute h f) s = .next (inService h (.openRoute f) .badValue [] (received h s))) ∧
    (∀ f, s.rw.isOpen = false →
      exec (.appendSegment h f) s = .next (inService h (.appendSegment f) .noRoute (windowItems s) (received h s))) ∧
    (∀ f, s.rw.isOpen = true → f.index ≠ s.rw.next →
      exec (.appendSegment h f) s = .next (inService h (.appendSegment f) .outOfOrder (windowItems s) (received h s))) ∧
    (∀ f, s.rw.isOpen = true → f.index = s.rw.next → 48 ≤ s.rw.segs.length →
      exec (.appendSegment h f) s = .next (inService h (.appendSegment f) .windowFull (windowItems s) (received h s))) ∧
    (∀ f, s.rw.isOpen = true → f.index = s.rw.next → s.rw.segs.length < 48 →
      (f.kind < 1 ∨ 4 < f.kind ∨ 16 ≤ f.marker ∨
        (f.kind = 1 ∧ f.marker % 8 ≠ 0) ∨ (f.kind = 2 ∧ f.marker % 8 ≠ 1) ∨ (f.kind = 3 ∧ f.marker % 8 ≠ 3) ∨
        (f.kind = 4 ∧ f.marker % 8 ≠ 5) ∨ f.length < 100 ∨ 500000 < f.length ∨
        (2 ≤ f.kind ∧ 125000 < f.kStart.natAbs) ∨ (f.kind = 3 ∧ 125000 < f.kEnd.natAbs) ∨ (f.kind = 4 ∧ 800 < f.cap) ∨
        (8 ≤ f.marker ∧ (f.beaconId < 1 ∨ 65535 < f.beaconId ∨ f.length ≤ f.beaconOffset)) ∨
        1000000000 < s.rw.front + f.length) →
      exec (.appendSegment h f) s = .next (inService h (.appendSegment f) .badValue (windowItems s) (received h s))) ∧
    (∀ r u, s.rw.isOpen = false →
      exec (.place h r u) s = .next (inService h (.place r u) .noRoute [] (received h s))) ∧
    (∀ r u, s.rw.isOpen = true → (999999999 < r ∨ 65535 < u) →
      exec (.place h r u) s = .next (inService h (.place r u) .badValue [] (received h s)))

/-- An accepted APPEND_SEGMENT joins its record at the front, which advances by its length; the next expected index is
the record's plus one modulo 65,536; nothing else in the part changes (R19 to R21). A STRAIGHT, ARC, SPIRAL or
JUNCTION record with its fields in range, and a beacon if present, is valid, and enters with its beacon PENDING. The
model's choices in it: log 1. -/
def Obligations.AppendJoinsAtTheFront : Prop :=
  ∀ (h : Hdr) (f : SegmentFields) (geo : Geometry) (beacon : Option Beacon) (s : State),
    ReadyInRun s → h.dest = .addressed → s.aa.auth.heldBy h.src = true → s.rw.isOpen = true →
    f.index = s.rw.next → s.rw.segs.length < 48 → 100 ≤ f.length → f.length ≤ 500000 →
    s.rw.front + f.length ≤ 1000000000 →
    ((f.kind = 1 ∧ f.marker % 8 = 0 ∧ geo = .straight) ∨
      (f.kind = 2 ∧ f.marker % 8 = 1 ∧ f.kStart.natAbs ≤ 125000 ∧ geo = .arc f.kStart) ∨
      (f.kind = 3 ∧ f.marker % 8 = 3 ∧ f.kStart.natAbs ≤ 125000 ∧ f.kEnd.natAbs ≤ 125000 ∧
        geo = .spiral f.kStart f.kEnd) ∨
      (f.kind = 4 ∧ f.marker % 8 = 5 ∧ f.kStart.natAbs ≤ 125000 ∧ f.cap ≤ 800 ∧ geo = .junction f.kStart f.cap)) →
    ((f.marker < 8 ∧ beacon = none) ∨
      (8 ≤ f.marker ∧ f.marker < 16 ∧ 1 ≤ f.beaconId ∧ f.beaconId ≤ 65535 ∧ f.beaconOffset < f.length ∧
        beacon = some ⟨f.beaconId, f.beaconOffset, .pending⟩)) →
    exec (.appendSegment h f) s = .next (inService h (.appendSegment f) .ok
      (beBytes 2 ((f.index + 1) % 65536) ++ beBytes 1 (s.rw.segs.length + 1))
      ((received h s).setRw { s.rw with
        segs := s.rw.segs ++ [{ index := f.index, geo := geo, length := f.length, beacon := beacon }],
        front := s.rw.front + f.length, next := (f.index + 1) % 65536 }))

/-- CLOSE_ROUTE with a route open empties and closes the window, makes the confidence UNPLACED with miss count 0, and
sends every channel in RELEASING, TRACKING or HOLDING to CENTRING without a fault mark; of the fault records only
those of a standing BEACON_MISSED and HORIZON_SHORTFALL end; without an open route it is answered OK and changes
nothing (R23, R83, R87, R140). The model's choices in it: log 1, 15, 21. -/
def Obligations.CloseRouteEndsTheRoute : Prop :=
  ∀ (h : Hdr) (s : State), ReadyInRun s → h.dest = .addressed → s.aa.auth.heldBy h.src = true →
    (s.rw.isOpen = false → exec (.closeRoute h) s = .next (inService h .closeRoute .ok [] (received h s))) ∧
    (s.rw.isOpen = true → ∃ t, exec (.closeRoute h) s = .next (inService h .closeRoute .ok [] t) ∧
      t.rw = { isOpen := false, lead := .a, rear := 0, front := 0, next := 0, segs := [], horizonLow := false } ∧
      t.pfu = { s.pfu with conf := .unplaced, miss := 0, missTold := false, marks := [] } ∧
      (∀ k, t.ac.get k =
        if (s.ac.get k).state.released then
          { s.ac.get k with state := .centring .stepping, mark := false, persist := 0, homingT := none, lockT := none,
                            settle := none, centringT := some 0 }
        else s.ac.get k) ∧
      t.path = { s.path with marks := s.path.marks.map fun m => { m with isVoid := true } } ∧
      t.sv.routeOpen = false ∧ t.sv.conf = .unplaced ∧ (s.sv.routeOpen = true → t.sv.shortfall = false) ∧
      OnlyEnds s t ∧ (ViewInv s → Ends (ofOpenRoute s) s t) ∧
      t.sv.hold = s.sv.hold ∧ t.sv.latch = s.sv.latch ∧
      t.odo = s.odo ∧ t.ss = s.ss ∧ t.ct = s.ct ∧ t.li = (received h s).li ∧ t.aa = (received h s).aa ∧
      t.pending = s.pending)

/-- An accepted PLACE sets r to r_ref with the µm fraction zero and U to its field, makes the confidence PLACED or
DRIFTED by U_max, reports POSITION_CONFLICT inactive and voids the corrections on their way; the miss count, the last
correction and every beacon stand (R69, R86). The model's choices in it: log 1. -/
def Obligations.PlaceSetsPositionAndUncertainty : Prop :=
  ∀ (h : Hdr) (rRef u : Nat) (s : State), ReadyInRun s → h.dest = .addressed → s.aa.auth.heldBy h.src = true →
    s.rw.isOpen = true → rRef ≤ 999999999 → u ≤ 65535 →
    ∃ t, exec (.place h rRef u) s = .next (inService h (.place rRef u) .ok [] t) ∧
      t.odo = { s.odo with r := rRef * 1000 } ∧
      t.pfu = { s.pfu with u := u * 1000, conf := if u ≤ s.ct.table.uMax then .placed else .drifted } ∧
      (∀ g ∈ t.sv.faults, g.code = .positionConflict → g.subject = .none → g.active = false) ∧
      t.path = { s.path with corrections := s.path.corrections.map fun c => { c with isVoid := true } } ∧
      t.sv.conf = t.pfu.conf ∧ t.sv.hold = s.sv.hold ∧ t.sv.latch = s.sv.latch ∧
      (ViewInv s → (∀ k, (s.ac.get k).state ≠ .tracking ∧ (s.ac.get k).state ≠ .holding) →
        Ends (fun f => f.isPart .positionConflict) s t) ∧
      t.rw = s.rw ∧ t.ss = s.ss ∧ t.ac = s.ac ∧ t.ct = s.ct ∧ t.li = (received h s).li ∧ t.aa = (received h s).aa ∧
      t.pending = s.pending

/-! ### Channels, holds, gain and reference speed -/

/-- UNLOCK by the checks of R104 in order; accepted, every LOCKED channel whose partner is LOCKED or ABSENT enters
RELEASING, and no other channel changes (R104, R105, R133). A contact already reading RELEASED is taken at once. The
model's choices in it: log 1. -/
def Obligations.UnlockReleasesQualifyingChannels : Prop :=
  ∀ (h : Hdr) (s : State), ReadyInRun s → h.dest = .addressed → s.aa.auth.heldBy h.src = true →
    (∀ k, qualifies s k = true ↔ fitted s k = true ∧ (s.ac.get k).state = .locked ∧
      ((s.ac.get k.partner).state = .locked ∨ (s.ac.get k.partner).state = .absent)) ∧
    (s.rw.isOpen = false → exec (.unlock h) s = .next (inService h .unlock .noRoute [] (received h s))) ∧
    (s.rw.isOpen = true → s.pfu.conf ≠ .placed →
      exec (.unlock h) s = .next (inService h .unlock .notPlaced [] (received h s))) ∧
    (s.rw.isOpen = true → s.pfu.conf = .placed → s.sv.latch = true →
      exec (.unlock h) s = .next (inService h .unlock .isolated [] (received h s))) ∧
    (s.rw.isOpen = true → s.pfu.conf = .placed → s.sv.latch = false → (∀ k, qualifies s k = false) →
      exec (.unlock h) s = .next (inService h .unlock .wrongState [] (received h s))) ∧
    (s.rw.isOpen = true → s.pfu.conf = .placed → s.sv.latch = false → (∃ k, qualifies s k = true) →
      ∃ t, exec (.unlock h) s = .next (inService h .unlock .ok
          (beBytes 1 ((if qualifies s .c1 then 1 else 0) + (if qualifies s .c2 then 2 else 0) +
            (if qualifies s .c3 then 4 else 0) + (if qualifies s .c4 then 8 else 0))) t) ∧
        OnlyAcSv (received h s) t ∧ KeepsOrders s t ∧
        ∀ k,
          (qualifies s k = false → t.ac.get k = s.ac.get k) ∧
          (qualifies s k = true → (s.ac.get k).contact ≠ .released →
            t.ac.get k = { s.ac.get k with state := .releasing .awaiting, solenoid := true, homingT := none,
                                           lockT := some 0, settle := none, centringT := none }) ∧
          (qualifies s k = true → (s.ac.get k).contact = .released → s.ct.table.settleFrames ≠ 0 →
            t.ac.get k = { s.ac.get k with state := .releasing .settling, solenoid := true, homingT := none,
                                           lockT := some 0, settle := some 0, centringT := none }) ∧
          (qualifies s k = true → (s.ac.get k).contact = .released → s.ct.table.settleFrames = 0 →
            t.ac.get k = { s.ac.get k with state := if s.sv.hold = .none then .tracking else .holding, theta := 0,
                                           persist := 0, solenoid := true, homingT := none, lockT := none,
                                           settle := none, centringT := none }))

/-- CENTRE_ALL sends every channel in RELEASING, TRACKING or HOLDING to CENTRING, stepping, without a fault mark, and
is answered with the set of the fitted ones among them; the hold mode stands, and of the fault records only that of a
standing HORIZON_SHORTFALL ends (R110, R114, R140). The model's choices in it: log 1, 15. -/
def Obligations.CentreAllCentresReleasedChannels : Prop :=
  ∀ (h : Hdr) (s : State), ReadyInRun s → h.dest = .addressed → s.aa.auth.heldBy h.src = true →
    (∀ st : ChanState, st.released = true ↔ (∃ phase, st = .releasing phase) ∨ st = .tracking ∨ st = .holding) ∧
    ∃ t, exec (.centreAll h) s = .next (inService h .centreAll .ok
        (beBytes 1 (let centres (k : Chan) : Bool := fitted s k && (s.ac.get k).state.released
          (if centres .c1 then 1 else 0) + (if centres .c2 then 2 else 0) + (if centres .c3 then 4 else 0) +
            (if centres .c4 then 8 else 0))) t) ∧
      OnlyAcSv (received h s) t ∧ KeepsOrders s t ∧
      (ViewInv s → Ends (fun f => s.sv.shortfall && f.isPart .horizonShortfall) s t) ∧
      ∀ k, t.ac.get k =
        if (s.ac.get k).state.released then
          { s.ac.get k with state := .centring .stepping, mark := false, persist := 0, homingT := none, lockT := none,
                            settle := none, centringT := some 0 }
        else s.ac.get k

/-- CALIBRATE at standstill, naming a fitted LOCKED channel, puts that channel into HOMING, assessing, needing a fresh
conversion; a number that is no channel is answered BAD_VALUE and a channel that is not LOCKED WRONG_STATE (R93, R98,
R121). The model's choices in it: log 1. -/
def Obligations.CalibrateRehomesOneChannel : Prop :=
  ∀ (h : Hdr) (n : Nat) (s : State), ReadyInRun s → h.dest = .addressed → s.aa.auth.heldBy h.src = true →
    (chanOf n = none → exec (.calibrate h n) s = .next (inService h (.calibrate n) .badValue [] (received h s))) ∧
    (∀ k, chanOf n = some k → s.odo.standstill = .standstill → (fitted s k = false ∨ (s.ac.get k).state ≠ .locked) →
      exec (.calibrate h n) s = .next (inService h (.calibrate n) .wrongState [] (received h s))) ∧
    (∀ k, chanOf n = some k → s.odo.standstill = .standstill → fitted s k = true → (s.ac.get k).state = .locked →
      ∃ t, exec (.calibrate h n) s = .next (inService h (.calibrate n) .ok [] t) ∧
        OnlyAcSv (received h s) t ∧ KeepsOrders s t ∧ (ViewInv s → KeepsFaults s t) ∧
        (∀ j, j ≠ k → t.ac.get j = s.ac.get j) ∧
        t.ac.get k = { s.ac.get k with
          state := .homing .assessing, theta := 0, homingT := some 0, lockT := none, settle := none, centringT := none,
          drive := .off, solenoid := false,
          conv := if (s.ac.get k).conv = .none then .inFlight false else .inFlight true })

/-- HOLD sets the hold mode it names and nothing else, and a field that names none is answered BAD_VALUE; RESUME sets
the hold mode NONE and moves every HOLDING channel to TRACKING with its target as it stands; SET_GAIN sets the gain,
at most 100, and is answered with it (R131, R134, R186). The model's choices in it: log 1. -/
def Obligations.HoldResumeAndGain : Prop :=
  ∀ (h : Hdr) (s : State), ReadyInRun s → h.dest = .addressed → s.aa.auth.heldBy h.src = true →
    exec (.hold h 1) s =
      .next (inService h (.hold 1) .ok [] ((received h s).setSv { s.sv with hold := .immediate })) ∧
    exec (.hold h 2) s = .next (inService h (.hold 2) .ok [] ((received h s).setSv { s.sv with hold := .atCentre })) ∧
    (∀ n, n ≠ 1 → n ≠ 2 → exec (.hold h n) s = .next (inService h (.hold n) .badValue [] (received h s))) ∧
    (∃ t, exec (.resume h) s = .next (inService h .resume .ok [] t) ∧ OnlyAcSv (received h s) t ∧
      t.sv.hold = .none ∧ t.sv.latch = s.sv.latch ∧ (ViewInv s → KeepsFaults s t) ∧
      ∀ k, t.ac.get k =
        if (s.ac.get k).state = .holding then { s.ac.get k with state := .tracking } else s.ac.get k) ∧
    (∀ n, exec (.setGain h n) s = .next (inService h (.setGain n) .ok (beBytes 1 (if n ≤ 100 then n else 100))
      ((received h s).setCt { s.ct with gain := if n ≤ 100 then n else 100 })))

/-- SPEED_REFERENCE: the brake controller's is stored with its four flags at age zero, held to 25,000 mm/s with its
own sign, addressed or broadcast, whoever holds authority; any other sender's is answered NOT_PERMITTED, or dropped as
a broadcast; and in WAKING it is answered NOT_READY, or dropped (R57). The model's choices in it: log 1. -/
def Obligations.SpeedReferenceFromBrakeController : Prop :=
  ∀ (h : Hdr) (v : Int) (flags : Nat) (s : State), Ready s →
    let stored : SpeedRef := { v := if 25000 < v then 25000 else if v < -25000 then -25000 else v,
                               braking := flags.testBit 0, traction := flags.testBit 1, slide := flags.testBit 2,
                               spin := flags.testBit 3, age := 0, stale := false }
    let c := Instr.speedReference h v flags
    let req := Request.speedReference v flags
    (s.ct.mode = .run → h.src = .brake → h.dest = .addressed →
      exec c s = .next (inService h req .ok [] ((received h s).setOdo { s.odo with ref := some stored }))) ∧
    (s.ct.mode = .run → h.src = .brake → h.dest = .broadcast →
      exec c s = .next ((received h s).setOdo { s.odo with ref := some stored })) ∧
    (s.ct.mode = .run → h.src ≠ .brake → h.dest = .addressed →
      exec c s = .next (inService h req .notPermitted [] (received h s))) ∧
    (s.ct.mode = .run → h.src ≠ .brake → h.dest = .broadcast → exec c s = .next (received h s)) ∧
    (s.ct.mode = .waking → h.dest = .addressed → exec c s = .next (inService h req .notReady [] (received h s))) ∧
    (s.ct.mode = .waking → h.dest = .broadcast → exec c s = .next (received h s))

/-! ### Configuration, modes and faults -/

/-- SET_CONFIG from the holder at standstill by the remaining checks of R183 in order, for a change that alters no
channel's fittedness: BAD_VALUE for what names no parameter or lies out of its range, WRONG_STATE where the channel
states of R184 do not allow the change, and otherwise the value is stored, answered with the value held, and nothing
else changes; the parameters, their codes, their ranges and the place of each value in the table are given one by one,
and a channel is fitted as enable and fitting say; a running lock timer and a carry counter meet a new limit at their
next sample (R49, R122, R183 to R185). The model's choices in it: log 1, 2. -/
def Obligations.SetConfigStoresOneValue : Prop :=
  (let parts : List (Nat × PartParam × (ConfigTable → Int) × Int × Int) :=
      [(1, .frameInterval, fun t => t.frameInterval, 5, 20), (2, .anticipation, fun t => t.anticipation, 0, 15),
       (3, .retention, fun t => t.retention, 2000, 50000), (4, .carryLimit, fun t => t.carryLimit, 0, 1000),
       (5, .horizonCond, fun t => match t.horizonCond with | .shortDistance => 1 | .freeSpace => 2, 1, 2),
       (6, .horizonWarning, fun t => t.horizonWarning, 10000, 200000), (7, .freeThreshold, fun t => t.freeThreshold, 1, 47),
       (8, .fitting, fun t => match t.fitting with | .twoBogies => 1 | .oneBogie => 2, 1, 2),
       (9, .lockTime, fun t => t.lockTime, 5, 100), (10, .settleFrames, fun t => t.settleFrames, 0, 50),
       (11, .homingLimit, fun t => t.homingLimit, 50, 1000), (12, .lockWindow, fun t => t.lockWindow, 10, 100),
       (13, .lambda1, fun t => t.lambda.t1, 5000, 40000), (14, .lambda2, fun t => t.lambda.t2, 5000, 40000),
       (15, .readerOffset, fun t => t.readerOffset, -20000, 20000), (16, .drift, fun t => t.drift, 1, 50),
       (17, .uMax, fun t => t.uMax, 500, 10000), (18, .uFix, fun t => t.uFix, 20, 1000),
       (19, .slideGain, fun t => t.slideGain, 0, 100), (20, .presenceTimeout, fun t => t.presenceTimeout, 50, 2000),
       (21, .offerTimeout, fun t => t.offerTimeout, 500, 5000), (22, .standstillTime, fun t => t.standstillTime, 100, 2000),
       (23, .refHold, fun t => t.refHold, 10, 200), (24, .stabTime, fun t => t.stabTime, 100, 2000)]
    let chans : List (Nat × ChanParam × (ChanConfig → Int) × Int × Int) :=
      [(32, .enable, fun c => if c.enable then 1 else 0, 0, 1), (33, .offset, fun c => c.offset, -20000, 20000),
       (34, .lever, fun c => c.lever, 200, 1500), (35, .angleLimit, fun c => c.angleLimit, 0, 800),
       (36, .slew, fun c => c.slew, 1, 100), (37, .tolerance, fun c => c.tolerance, 5, 200),
       (38, .persistLimit, fun c => c.persistLimit, 1, 100), (39, .kp, fun c => c.kp, 1, 255),
       (40, .dmax, fun c => c.dmax, 100, 1000), (41, .homingDuty, fun c => c.homingDuty, 50, 500),
       (42, .scale, fun c => c.scale, 16, 255)]
    (∀ code p value low high, (code, p, value, low, high) ∈ parts →
      paramRef code 0 = some (.part p) ∧ (ParamRef.part p).range = (low, high) ∧
        ∀ t, (ParamRef.part p).get t = value t) ∧
    (∀ code p value low high, (code, p, value, low, high) ∈ chans → ∀ n k, (n, k) ∈ [(1, Chan.c1), (2, .c2), (3, .c3), (4, .c4)] →
      paramRef code n = some (.chan p k) ∧ (ParamRef.chan p k).range = (low, high) ∧
        ∀ t, (ParamRef.chan p k).get t = value (t.chan.get k)) ∧
    (∀ code n, (n ≠ 0 ∨ ∀ row ∈ parts, row.1 ≠ code) → ((n < 1 ∨ 4 < n) ∨ ∀ row ∈ chans, row.1 ≠ code) →
      paramRef code n = none) ∧
    (∀ (p : ParamRef) v, p.admits v = true ↔ p.range.1 ≤ v ∧ v ≤ p.range.2) ∧
    ∀ (t : ConfigTable) k,
      t.fitted k = ((t.chan.get k).enable && (t.fitting == .twoBogies || k == .c1 || k == .c2))) ∧
  ∀ (h : Hdr) (param channel : Nat) (v : Int) (s : State), ReadyInRun s → h.dest = .addressed →
    s.aa.auth.heldBy h.src = true → s.odo.standstill = .standstill →
    let c := Instr.setConfig h param channel v
    let req := Request.setConfig param channel v
    let allowed (p : ParamRef) : Prop :=
      ((p = .part .fitting ∨ ∃ k, p = .chan .enable k) → ∀ k, s.ct.table.fitted k = true →
        (p.set s.ct.table v).fitted k = false →
        (s.ac.get k).state = .locked ∨ (s.ac.get k).state = .absent ∨ (s.ac.get k).state = .faulted .lockEngaged) ∧
      (∀ q, p = .part q → q ≠ .fitting → ∀ k, s.ct.table.fitted k = true →
        (s.ac.get k).state = .locked ∨ ∃ phase, (s.ac.get k).state = .faulted phase) ∧
      (∀ q k, p = .chan q k → q ≠ .enable → (s.ac.get k).state = .locked ∨ (s.ac.get k).state = .absent)
    (paramRef param channel = none →
      exec c s = .next (inService h req .badValue (beBytes 1 param ++ beBytes 1 channel) (received h s))) ∧
    (∀ p, paramRef param channel = some p → (v < p.range.1 ∨ p.range.2 < v) →
      exec c s = .next (inService h req .badValue
        (beBytes 1 param ++ beBytes 1 channel ++ beSigned 4 (p.get s.ct.table)) (received h s))) ∧
    (∀ p, paramRef param channel = some p → p.admits v = true → ¬allowed p →
      exec c s = .next (inService h req .wrongState
        (beBytes 1 param ++ beBytes 1 channel ++ beSigned 4 (p.get s.ct.table)) (received h s))) ∧
    (∀ p, paramRef param channel = some p → p.admits v = true → allowed p →
      (∀ k, (p.set s.ct.table v).fitted k = s.ct.table.fitted k) →
      exec c s = .next (inService h req .ok (beBytes 1 param ++ beBytes 1 channel ++ beSigned 4 v)
        ((received h s).setCt { s.ct with table := p.set s.ct.table v })) ∧
      p.get (p.set s.ct.table v) = v ∧ ∀ p', p' ≠ p → p'.get (p.set s.ct.table v) = p'.get s.ct.table)

/-- An accepted change of fitting or enable: a channel made absent enters ABSENT with its outputs off, its conversion
abandoned, its marks clear and its timers idle; one made fitted enters HOMING, with its schedule record at the
power-on values; any other channel and record stand; and of the fault records only those of a FAULTED channel made
absent end (R29, R98, R120, R123, R184). The model's choices in it: log 1. -/
def Obligations.FittingChangeMakesAbsentOrHomes : Prop :=
  ∀ (h : Hdr) (param channel : Nat) (v : Int) (p : ParamRef) (s : State), ReadyInRun s → h.dest = .addressed →
    s.aa.auth.heldBy h.src = true → s.odo.standstill = .standstill → paramRef param channel = some p →
    (p = .part .fitting ∨ ∃ k, p = .chan .enable k) → p.admits v = true →
    let after := p.set s.ct.table v
    (∀ k, s.ct.table.fitted k = true → after.fitted k = false →
      (s.ac.get k).state = .locked ∨ (s.ac.get k).state = .absent ∨ (s.ac.get k).state = .faulted .lockEngaged) →
    ∃ t, exec (.setConfig h param channel v) s = .next (inService h (.setConfig param channel v) .ok
          (beBytes 1 param ++ beBytes 1 channel ++ beSigned 4 v) t) ∧
      t.ct = { s.ct with table := after } ∧ KeepsOrders s t ∧ (ViewInv s → TargetInv s → Ends (fun f => Chan.all.any fun k =>
        s.ct.table.fitted k && !after.fitted k && (s.ac.get k).state.isFaulted && f.isOf k) s t) ∧
      (∀ k, s.ct.table.fitted k = after.fitted k → t.ac.get k = s.ac.get k ∧ t.ss.get k = s.ss.get k) ∧
      (∀ k, s.ct.table.fitted k = true → after.fitted k = false →
        t.ss.get k = s.ss.get k ∧
        t.ac.get k = { s.ac.get k with state := .absent, theta := 0, mark := false, untrusted := false, drive := .off,
                                       solenoid := false, conv := .none, homingT := none, lockT := none,
                                       settle := none, centringT := none }) ∧
      (∀ k, s.ct.table.fitted k = false → after.fitted k = true →
        t.ss.get k = { source := .carried, carried := 0, carry := 0, look := none } ∧
        t.ac.get k = { s.ac.get k with state := .homing .assessing, theta := 0, persist := 0, mark := false,
                                       untrusted := false, drive := .off, solenoid := false, homingT := some 0,
                                       lockT := none, settle := none, centringT := none,
                                       conv := if (s.ac.get k).conv = .none then .inFlight false
                                               else .inFlight true }) ∧
      t.rw = s.rw ∧ t.odo = s.odo ∧ t.pfu = s.pfu ∧ t.path = s.path ∧ t.li = (received h s).li ∧
      t.aa = (received h s).aa ∧ t.pending = s.pending

/-- SLEEP and RESTART from the holder at standstill: WRONG_STATE unless every fitted channel is LOCKED or FAULTED with
lock engaged; accepted, they set the pending mode change and nothing else before the end of their service (R190, R193,
R195). The model's choices in it: log 1. -/
def Obligations.SleepAndRestartWaitForEndOfService : Prop :=
  ∀ (h : Hdr) (s : State), ReadyInRun s → h.dest = .addressed → s.aa.auth.heldBy h.src = true →
    s.odo.standstill = .standstill →
    ((∀ k, fitted s k = true → (s.ac.get k).state = .locked ∨ (s.ac.get k).state = .faulted .lockEngaged) →
      exec (.sleep h) s =
        .next (inService h .sleep .ok [] ((received h s).setCt { s.ct with pendingMode := .sleep })) ∧
      exec (.restart h) s =
        .next (inService h .restart .ok [] ((received h s).setCt { s.ct with pendingMode := .restart }))) ∧
    (∀ k, fitted s k = true → (s.ac.get k).state ≠ .locked → (s.ac.get k).state ≠ .faulted .lockEngaged →
      exec (.sleep h) s = .next (inService h .sleep .wrongState [] (received h s)) ∧
      exec (.restart h) s = .next (inService h .restart .wrongState [] (received h s)))

/-- CLEAR_FAULTS from the holder at standstill: every fitted channel FAULTED with lock engaged enters HOMING, every
tacho is WORKING, and the records that leave are the inactive ones, those of the rehomed channels and the TACHO_FAILED
ones among them; the others stay as they are, in order, and the notice flags stand (R63, R120, R203, R204). The
model's choices in it: log 1, 19. -/
def Obligations.ClearFaultsRemovesWhatHasEnded : Prop :=
  ∀ (h : Hdr) (s : State), Inv s → ReadyInRun s → h.dest = .addressed → s.aa.auth.heldBy h.src = true →
    s.odo.standstill = .standstill →
    let rehomed (k : Chan) : Bool := fitted s k && (s.ac.get k).state == .faulted .lockEngaged
    let stays (f : FaultRecord) : Bool :=
      f.active && f.code != .tachoFailed &&
        (match f.subject with
         | .chan k => !rehomed k
         | _ => true)
    ∃ t, exec (.clearFaults h) s = .next (inService h .clearFaults .ok
          (beBytes 1 (s.sv.faults.length - (s.sv.faults.filter stays).length) ++
            beBytes 1 (s.sv.faults.filter stays).length) t) ∧
      t.sv.faults = s.sv.faults.filter stays ∧
      t.sv.listFull = (s.sv.listFull && (s.sv.faults.filter stays).length == s.sv.faults.length) ∧
      t.sv.notice = s.sv.notice ∧ KeepsOrders s t ∧
      t.odo.tacho = ⟨.working, .working⟩ ∧ t.odo.disagree = 0 ∧ t.odo.agree = 0 ∧
      (∀ k, rehomed k = false → t.ac.get k = s.ac.get k) ∧
      (∀ k, rehomed k = true → (t.ac.get k).state = .homing .assessing ∧ (t.ac.get k).mark = false ∧
        (t.ac.get k).untrusted = false ∧ (t.ac.get k).theta = 0 ∧ (t.ac.get k).homingT = some 0) ∧
      t.odo.r = s.odo.r ∧ t.rw = s.rw ∧ t.pfu = s.pfu ∧ t.ss = s.ss ∧ t.ct = s.ct ∧ t.path = s.path ∧
      t.li = (received h s).li ∧ t.aa = (received h s).aa ∧ t.pending = s.pending

/-! ### Reads and replies -/

/-- A read request is answered at the start of its reply: its dispatch, in WAKING and in RUN, fixes the result alone,
BAD_VALUE for a channel or a start position out of range (R171, R177, R179); and REPLY_START, on a line that has been
at rest for 20 bit times and within the 500 bit times of the request, starts the reply and composes its items from the
state then standing, byte by byte as sections 12.3, 12.4 and 12.6 lay them out (R173, R175 to R179, R208, R210). The
model's choices in it: log 1, 4. -/
def Obligations.ReadsAreTakenAtReplyStart : Prop :=
  ∀ (h : Hdr) (s : State), Ready s → s.ct.mode ≠ .sleep → h.dest = .addressed →
    exec (.readStatus h) s = .next (inService h .readStatus .ok [] (received h s)) ∧
    exec (.readPosition h) s = .next (inService h .readPosition .ok [] (received h s)) ∧
    (∀ n, exec (.readChannel h n) s = .next (inService h (.readChannel n)
      (if 1 ≤ n ∧ n ≤ 4 then .ok else .badValue) [] (received h s))) ∧
    (∀ n, exec (.readWindow h n) s = .next (inService h (.readWindow n) .ok [] (received h s))) ∧
    (∀ n, exec (.readFaults h n) s = .next (inService h (.readFaults n)
      (if n ≤ 15 then .ok else .badValue) [] (received h s))) ∧
    (∀ (req : Request) (age : Nat) (t : State), t.power = .on → t.li.line = .free → 20 ≤ t.li.ones → age < 500 →
      t.li.service = some { hdr := h, req := req, age := age, result := .ok, items := [], reply := none } →
      ∃ u r, exec .replyStart t = .next u ∧ (u.li.service.bind fun v => v.reply) = some r ∧
        (req = .readStatus → r.items = beBytes 1 t.odo.standstill.code ++ beBytes 1 t.sv.hold.code ++
          beBytes 1 t.ct.gain ++ beBytes 2 (t.pfu.u / 1000)) ∧
        (req = .readPosition → r.items = beBytes 4 (t.odo.r / 1000) ++ beSigned 4 t.odo.d ++
          beBytes 1 t.odo.lastInterval ++ beBytes 1 t.odo.quality.code ++ beBytes 2 (t.pfu.u / 1000) ++
          beBytes 1 t.pfu.conf.code ++ beBytes 1 (if t.pfu.lastCorrection.isSome then 1 else 0) ++
          beSigned 4 (t.pfu.lastCorrection.getD 0) ++ beBytes 1 t.pfu.miss) ∧
        (∀ n k, req = .readChannel n → chanOf n = some k →
          let ch := t.ac.get k
          let rec_ := t.ss.get k
          (fitted t k = false → r.items = [0#8]) ∧
          (fitted t k = true → r.items = beBytes 1 ch.state.code ++ beBytes 1 ch.state.phaseCode ++
            beBytes 1 ((if ch.mark then 1 else 0) + if rec_.look.isSome then 2 else 0) ++ beSigned 2 ch.theta ++
            beSigned 2 ch.sched ++ beSigned 2 ch.m ++ beBytes 1 ch.persist ++ beBytes 1 ch.contact.code ++
            beBytes 1 ch.centre.code ++ beBytes 1 rec_.source.code ++ beSigned 4 rec_.carried ++
            beSigned 4 (rec_.look.getD 0))) ∧
        (∀ n g, req = .readWindow n → t.rw.segs[n]? = some g →
          let (kind, present, κ, κ', cap) : Nat × Nat × Int × Int × Nat := match g.geo with
            | .straight => (1, 0, 0, 0, 0)
            | .arc κ => (2, 1, κ, 0, 0)
            | .spiral κ κ' => (3, 1 + 2, κ, κ', 0)
            | .junction κ cap => (4, 1 + 4, κ, 0, cap)
          let (marked, id, offset) : Nat × Nat × Nat := match g.beacon with
            | none => (0, 0, 0)
            | some b => (8 + 16 * b.status.code, b.id, b.offset)
          r.items = beBytes 2 g.index ++ beBytes 1 kind ++ beBytes 1 (present + marked) ++ beBytes 4 g.length ++
            beSigned 4 κ ++ beSigned 4 κ' ++ beBytes 2 cap ++ beBytes 2 id ++ beBytes 4 offset ++
            beBytes 4 (t.rw.rear + ((t.rw.segs.take n).map fun g => g.length).sum)) ∧
        (∀ n, req = .readWindow n → t.rw.segs.length ≤ n → r.items = [0#8]) ∧
        (∀ n, req = .readFaults n → r.items = beBytes 1 t.sv.faults.length ++
          beBytes 1 (if t.sv.listFull then 1 else 0) ++ ((t.sv.faults.drop n).take 2).flatMap fun f =>
            beBytes 1 f.code.code ++
            beBytes 1 (match f.subject with
              | .none => 0
              | .chan .c1 => 1
              | .chan .c2 => 2
              | .chan .c3 => 3
              | .chan .c4 => 4
              | .tacho .t1 => 1
              | .tacho .t2 => 2) ++
            beBytes 1 ((if f.active then 1 else 0) + if f.distance.isSome then 2 else 0) ++
            beBytes 4 (f.distance.getD 0) ++ beBytes 2 f.frame)) ∧
    [ChanState.absent, .unhomed, .homing .assessing, .locked, .releasing .awaiting, .tracking, .holding, .centring .stepping,
        .faulted .lockAwaited].map (fun st => (st.code, st.phaseCode)) =
      [(0, 0), (1, 0), (2, 1), (3, 0), (4, 1), (5, 0), (6, 0), (7, 1), (8, 1)] ∧
    [ChanState.homing .seeking, .homing .engaging, .homing .capturing, .releasing .settling, .centring .engaging,
        .faulted .lockEngaged, .faulted .lockFailed].map (fun st => (st.code, st.phaseCode)) =
      [(2, 2), (2, 3), (2, 4), (4, 2), (7, 2), (8, 2), (8, 3)] ∧
    [Contact.engaged, .released, .between].map Contact.code = [1, 2, 3] ∧
    [Centre.left, .centre, .right].map Centre.code = [1, 2, 3] ∧
    [Source.fromWindow, .fromWindowShort, .carried, .decaying].map Source.code = [1, 2, 3, 4] ∧
    [Quality.agreed, .single, .reference, .none].map Quality.code = [1, 2, 3, 4] ∧
    [Confidence.unplaced, .placed, .drifted].map Confidence.code = [0, 1, 2] ∧
    [Standstill.standstill, .moving].map Standstill.code = [1, 2] ∧
    [HoldMode.none, .immediate, .atCentre].map HoldMode.code = [0, 1, 2] ∧
    [BeaconStatus.pending, .matched, .missed].map BeaconStatus.code = [1, 2, 3] ∧
    [FaultCode.homingTimeout, .homingDisagree, .lockStuck, .lockFail, .trackingError, .sensorRange, .tachoFailed,
        .tachoDisagree, .beaconMissed, .positionConflict, .horizonShortfall, .holderSilent].map FaultCode.code =
      [1, 2, 3, 4, 5, 6, 7, 8, 9, 10, 11, 12]

/-- REPLY_START with a frame dispatched, within 500 bit times of its closing flag, on a line that is FREE and has
carried ones for 20 bit times: the reply carries the result fixed at dispatch and the summary as the blocks stand, the
overrun flag is cleared, the part's own flag makes the line BUSY and its receiver stops; a READ_FAULTS answer that
reaches the end of the list clears its sender's notice flag, after the summary. The frame of the reply goes from this
part's address to the request's source with its kind, and its payload is the result code, the three bytes of the summary
and the items, with the codes of sections 12.2, 12.5 and 12.6. Otherwise nothing starts (R167, R172 to R174, R179, R208,
R210). That the command starts the reply at any such time is the model's choice (log 4). -/
def Obligations.ReplyStartTakesTheSummary : Prop :=
  ∀ s : State, s.power = .on →
    (∀ v, s.li.service = some v → v.reply = none → s.li.line = .free → 20 ≤ s.li.ones → v.age < 500 →
      ∃ t r, exec .replyStart s = .next t ∧
        t.li = { s.li with service := some { v with reply := some r }, overrun := false, line := .busy, ones := 0,
                           receiver := .stopped } ∧
        r.result = v.result ∧
        r.summary = { mode := s.ct.mode, auth := s.aa.auth, routeOpen := s.rw.isOpen, conf := s.pfu.conf,
                      steering := s.sv.steering, level := s.sv.level, latch := s.sv.latch,
                      horizonLow := s.rw.horizonLow, notice := s.sv.notice.get v.hdr.src, listFull := s.sv.listFull,
                      overrun := s.li.overrun } ∧
        (let frame := replyFrame t.li.address v r
         let body := BitVec.ofNat 8 v.hdr.src.address :: BitVec.ofNat 8 s.li.address :: BitVec.ofNat 8 v.req.kindCode ::
           frame.payload
         frame.content = body ++ checkBytes body ∧ ∃ b0 b1 b2 : Byte,
           frame.payload = BitVec.ofNat 8 v.result.code :: b0 :: b1 :: b2 :: r.items ∧
           (b0.toNat / 64, b0.toNat / 8 % 8, b0.toNat % 8) =
             (match s.aa.auth with
              | .vacant => (0, 0, 0)
              | .held m => (1, m.address, 0)
              | .offered m n => (2, m.address, n.address)) ∧
           b1.toNat / 128 = (if s.ct.mode = .run then 1 else 0) ∧ b1.toNat / 64 % 2 = (if s.rw.isOpen then 1 else 0) ∧
           b1.toNat / 16 % 4 = (match s.pfu.conf with | .unplaced => 0 | .placed => 1 | .drifted => 2) ∧
           b1.toNat / 4 % 4 = (match s.sv.steering with | .unsteered => 0 | .partially => 1 | .steering => 2) ∧
           b1.toNat % 4 = (match s.sv.level with | .none => 0 | .reduced => 1 | .severe => 2) ∧
           b2.toNat / 128 = (if s.sv.latch then 1 else 0) ∧ b2.toNat / 64 % 2 = (if s.rw.horizonLow then 1 else 0) ∧
           b2.toNat / 32 % 2 = (if s.sv.notice.get v.hdr.src then 1 else 0) ∧
           b2.toNat / 16 % 2 = (if s.sv.listFull then 1 else 0) ∧ b2.toNat / 8 % 2 = (if s.li.overrun then 1 else 0) ∧
           b2.toNat % 8 = 0) ∧
        (v.result ≠ .ok → r.items = v.items) ∧
        (∀ k, v.req.kind = some k → k.isRead = false → r.items = v.items) ∧
        t.sv = { s.sv with notice :=
          match v.result, v.req with
          | .ok, .readFaults p =>
            if s.sv.faults.length = 0 ∨ s.sv.faults.length = p + 1 ∨ s.sv.faults.length = p + 2 then
              s.sv.notice.clear v.hdr.src
            else s.sv.notice
          | _, _ => s.sv.notice } ∧
        t.aa = s.aa ∧ t.rw = s.rw ∧ t.odo = s.odo ∧ t.pfu = s.pfu ∧ t.ss = s.ss ∧ t.ac = s.ac ∧ t.ct = s.ct ∧
        t.path = s.path ∧ t.pending = s.pending) ∧
    (s.li.service = none → exec .replyStart s = .next s) ∧
    (∀ v, s.li.service = some v → v.reply ≠ none ∨ 500 ≤ v.age → exec .replyStart s = .next s) ∧
    (s.li.line = .busy ∨ s.li.ones < 20 → exec .replyStart s = .next s) ∧
    [Master.cabA, .cabB, .brake, .maint].map Master.address = [1, 2, 3, 4] ∧
    [Result.ok, .notHolder, .heldElsewhere, .notPermitted, .notStandstill, .noOffer, .noRoute, .notPlaced, .outOfOrder,
        .windowFull, .badValue, .wrongState, .isolated, .notReady, .unknownKind].map Result.code =
      [0, 1, 2, 3, 4, 5, 6, 7, 8, 9, 10, 11, 12, 13, 14] ∧
    (∀ (req : Request) (k : Kind), req.kind = some k → (k, req.kindCode) ∈
      [(Kind.claim, 1), (.release, 2), (.offer, 3), (.accept, 4), (.openRoute, 8), (.appendSegment, 9), (.closeRoute, 10),
       (.place, 12), (.speedReference, 13), (.unlock, 16), (.calibrate, 17), (.centreAll, 18), (.hold, 20), (.resume, 21),
       (.clearFaults, 22), (.setConfig, 24), (.setGain, 25), (.sleep, 26), (.restart, 27), (.readStatus, 32),
       (.readPosition, 33), (.readChannel, 34), (.readWindow, 35), (.readFaults, 36)])

/-- END_OF_SERVICE after the reply, and REPLY_DROP of a reply that has not started 500 bit times after its request,
end the service: the next frame waiting is dispatched at once, its own service following if it is addressed and within
its 2 ms. A broadcast, or an addressed frame whose 500 bit times have passed, is dispatched with its effect and ends
there, and the rest of the queue is served as if the service before it ended now; a request that such a frame brings
for a mode change takes effect there too. The end of a reply leaves the line BUSY by its closing flag and the receiver
hunting (R164, R167, R171, R173). The model's choices in it: log 4, 14, 18. -/
def Obligations.EndOfServiceDispatchesTheNextFrame : Prop :=
  ∀ (s : State) (v : Service), s.power = .on → s.li.service = some v → s.ct.pendingMode = .none →
    let sent := s.setLi { s.li with receiver := .hunting, line := .busy, ones := 0, service := none }
    let dropped := s.setLi { s.li with service := none }
    (v.reply ≠ none → s.li.queue = [] → exec .endOfService s = .next sent) ∧
    (v.reply = none → 500 ≤ v.age → s.li.queue = [] → exec .replyDrop s = .next dropped) ∧
    (v.reply = none → exec .endOfService s = .next s) ∧
    (v.reply ≠ none ∨ v.age < 500 → exec .replyDrop s = .next s) ∧
    (∀ (f : QFrame) (rest : List QFrame), s.li.queue = f :: rest → f.hdr.dest = .addressed → f.age < 500 →
      (v.reply ≠ none →
        let out := judge f.hdr.src f.req (sent.setLi { sent.li with queue := rest })
        exec .endOfService s = .next (out.state.setLi { out.state.li with
          service := some { hdr := f.hdr, req := f.req, age := f.age, result := out.result, items := out.items,
                            reply := none } })) ∧
      (v.reply = none → 500 ≤ v.age →
        let out := judge f.hdr.src f.req (dropped.setLi { dropped.li with queue := rest })
        exec .replyDrop s = .next (out.state.setLi { out.state.li with
          service := some { hdr := f.hdr, req := f.req, age := f.age, result := out.result, items := out.items,
                            reply := none } }))) ∧
    (∀ (f : QFrame) (rest : List QFrame), s.li.queue = f :: rest →
      let again (t : State) : State := t.setLi { t.li with service := some v }
      (v.reply ≠ none →
        let out := judge f.hdr.src f.req (sent.setLi { sent.li with queue := rest })
        (f.hdr.dest = .addressed ∧ 500 ≤ f.age ∨ f.hdr.dest = .broadcast ∧ out.state.ct.pendingMode = .none) →
        (∃ t, exec .endOfService s = .next t) ∧ exec .endOfService s = exec .endOfService (again out.state)) ∧
      (v.reply = none → 500 ≤ v.age →
        let out := judge f.hdr.src f.req (dropped.setLi { dropped.li with queue := rest })
        (f.hdr.dest = .addressed ∧ 500 ≤ f.age ∨ f.hdr.dest = .broadcast ∧ out.state.ct.pendingMode = .none) →
        (∃ t, exec .replyDrop s = .next t) ∧ exec .replyDrop s = exec .replyDrop (again out.state)))

/-! ### The line -/

/-- The receiver and the line-busy state follow the flags, the ones and the aborts of the line: an opening flag or a
closed frame while hunting starts reception, every flag makes the line BUSY and starts the count of ones again, an
abort comes with the seventh one, ones for 16 bit times free the line and end the wait of a wake, before that and
while a frame is on the line LINE_FREE is no event. A receiver that waits after a wake, or is stopped by the part's
own reply, takes no frame, and the flags of frames and of requests meanwhile are noted: a flag after bits closes a
frame, also one that shares its opening flag with the frame before it; in SLEEP nothing is noted (R164, R167, R180).
The model's choices in it: log 3, 4, 14. -/
def Obligations.ReceiverFollowsTheLine : Prop :=
  ∀ s : State, s.power = .on →
    let flagged (r : Receiver) (inFrame : Bool) : State :=
      s.setLi { s.li with receiver := r, inFrame := inFrame, line := .busy, ones := 0 }
    (s.li.receiver = .hunting ∨ s.li.receiver = .receiving →
      exec .openingFlag s = .next (flagged .receiving true) ∧ exec (.frameClosed []) s = .next (flagged .receiving true)) ∧
    (∀ bits, s.li.receiver = .hunting → exec (.frameClosed bits) s = .next (flagged .receiving true)) ∧
    (s.li.receiver = .waiting ∨ s.li.receiver = .stopped → s.ct.mode ≠ .sleep →
      exec .openingFlag s = .next (flagged s.li.receiver true) ∧
      exec (.frameClosed []) s = .next (flagged s.li.receiver true) ∧
      (∀ bits, bits ≠ [] → exec (.frameClosed bits) s = .next (flagged s.li.receiver false)) ∧
      (∀ i h req, i.asRequest = some (h, req) → exec i s = .next (flagged s.li.receiver false))) ∧
    (s.li.receiver = .receiving →
      exec .frameAbort s = .next (s.setLi { s.li with receiver := .hunting, inFrame := false, ones := 7 })) ∧
    (s.li.receiver = .hunting ∨ s.li.receiver = .waiting →
      (s.li.inFrame = true → exec .frameAbort s = .next (s.setLi { s.li with inFrame := false, ones := 7 })) ∧
      (s.li.inFrame = false → exec .frameAbort s = .next s)) ∧
    (s.li.receiver = .stopped → exec .frameAbort s = .next (s.setLi { s.li with inFrame := false })) ∧
    (s.li.receiver = .hunting ∨ s.li.receiver = .waiting → s.li.inFrame = false → 16 ≤ s.li.ones →
      exec .lineFree s = .next (s.setLi { s.li with receiver := .hunting, line := .free })) ∧
    (s.li.ones < 16 ∨ s.li.receiver = .receiving ∨ s.li.receiver = .stopped ∨ s.li.inFrame = true →
      exec .lineFree s = .next s) ∧
    (s.li.receiver = .stopped → s.ct.mode = .sleep →
      exec .openingFlag s = .next s ∧ (∀ bits, exec (.frameClosed bits) s = .next s) ∧
      ∀ i h req, i.asRequest = some (h, req) → exec i s = .next s)

/-- A frame closed by its flag is discarded, leaving only the line BUSY, its count of ones at 0 and the receiver
hunting, when its bits hold six ones in a row, when its content is not a whole number of bytes, is shorter than 5 or
longer than 37 bytes, or fails its check, and when its destination is neither this part nor 31 or its source is no
master; an aborted frame leaves no more (R164, R165, R167, R168). Any other frame is accepted from its source,
addressed or by broadcast. Accepted by a part that serves no other, an addressed frame whose kind byte names no kind
is answered UNKNOWN_KIND, and one whose payload has not its kind's length BAD_VALUE, or in WAKING NOT_READY for a kind
that is no read; a broadcast so is dropped (R171, R208). The model's choices in it: log 1, 14. -/
def Obligations.FaultyFramesAreDiscarded : Prop :=
  ∀ (bits : List Bool) (s : State), s.power = .on → s.li.receiver = .receiving →
    let discarded := s.setLi { s.li with receiver := .hunting, inFrame := false, line := .busy, ones := 0 }
    let discards : Prop := exec (.frameClosed bits) s = .next discarded
    let lengths : List (Nat × Nat) :=
      [(1, 0), (2, 0), (3, 1), (4, 0), (8, 13), (9, 24), (10, 0), (12, 6), (13, 3), (16, 0), (17, 1), (18, 0), (20, 1),
       (21, 0), (22, 0), (24, 6), (25, 1), (26, 0), (27, 0), (32, 0), (33, 0), (34, 1), (35, 1), (36, 1)]
    (∃ n, exec .frameAbort s = .next (s.setLi { s.li with receiver := .hunting, inFrame := false, ones := n })) ∧
    (∀ before after, bits = before ++ List.replicate 6 true ++ after → discards) ∧
    (∀ content, bits ≠ [] → unstuff bits = some content →
      (content.length % 8 ≠ 0 → discards) ∧
      (content.length < 5 * 8 → discards) ∧
      (37 * 8 < content.length → discards) ∧
      (∀ bytes, bytesOfBits content = some bytes →
        bytes.drop (bytes.length - 2) ≠ checkBytes (bytes.take (bytes.length - 2)) → discards) ∧
      (∀ bytes, bytesOfBits content = some bytes → 5 ≤ bytes.length → bytes.length ≤ 37 →
        bytes.drop (bytes.length - 2) = checkBytes (bytes.take (bytes.length - 2)) →
        let dest := beNat (slice bytes 0 1)
        let src := beNat (slice bytes 1 1)
        let code := beNat (slice bytes 2 1)
        let payload := slice bytes 3 (bytes.length - 5)
        let unknown : Prop := ∀ n, (code, n) ∉ lengths
        let wrong : Prop := ∃ n, (code, n) ∈ lengths ∧ payload.length ≠ n
        (dest ≠ s.li.address → dest ≠ 31 → discards) ∧
        (src ≠ 1 → src ≠ 2 → src ≠ 3 → src ≠ 4 → discards) ∧
        (∀ m : Master, m.address = src → dest = s.li.address →
          exec (.frameClosed bits) s = .next (acceptFrame ⟨m, .addressed⟩ (requestOf code payload) discarded) ∧
          (s.li.service = none → s.li.queue = [] →
            let answered (result : Result) : Prop := ∃ req, req.kindCode = code ∧
              exec (.frameClosed bits) s =
                .next (inService ⟨m, .addressed⟩ req result [] (received ⟨m, .addressed⟩ s))
            (unknown → answered .unknownKind) ∧
            (wrong → s.ct.mode = .waking → code < 32 → answered .notReady) ∧
            (wrong → (s.ct.mode ≠ .waking ∨ 32 ≤ code) → answered .badValue))) ∧
        (∀ m : Master, m.address = src → dest = 31 → s.li.address ≠ 31 →
          exec (.frameClosed bits) s = .next (acceptFrame ⟨m, .broadcast⟩ (requestOf code payload) discarded) ∧
          (s.li.service = none → s.li.queue = [] → (unknown ∨ wrong) →
            exec (.frameClosed bits) s = .next (received ⟨m, .broadcast⟩ s)))))

/-- The bytes of a request spell it: for every well-formed request row, the kind byte and the payload that carry it are read
back as the same request (R208). -/
def Obligations.RequestPayloadSpellsTheRequest : Prop :=
  ∀ (i : Instr) (h : Hdr) (req : Request), i.wellFormed = true → i.asRequest = some (h, req) →
    requestOf req.kindCode req.payload = req

/-- A request row is its frame: the bits of the frame that carries a well-formed request, with zero insertion and
check, closed by a flag on a receiving part, do exactly what the request's own row does (R164 to R166, R168, R208).
The model's choices in it: log 1. -/
def Obligations.FrameOnTheLineIsItsRequest : Prop :=
  ∀ (i : Instr) (h : Hdr) (req : Request) (s : State), i.wellFormed = true → i.asRequest = some (h, req) →
    s.li.receiver = .receiving → 16 ≤ s.li.address → s.li.address ≤ 23 →
    exec (.frameClosed (requestFrame s.li.address h req).lineBits) s = exec i s

/-! ### Modes, reset and supply -/

/-- At the end of the service that accepted SLEEP, the part enters SLEEP: gain 100, authority VACANT, window and
confidence as a closed route, hold NONE, every fitted channel UNHOMED with outputs off and no conversion, the Odometer
stopped with its accumulators and streaks clear, the line stopped, and nothing on its way. The configuration, r, the
frame number, the schedule's records and the latch stand, and so does the fault list but for the records that end:
those of each channel that leaves FAULTED, and of a standing BEACON_MISSED and HORIZON_SHORTFALL (R70, R120, R125,
R180, R191, R206). The model's choices in it: log 4, 7, 9, 14, 27. -/
def Obligations.SleepBeginsAtTheEndOfItsService : Prop :=
  ∀ (s : State) (v : Service), s.power = .on → s.li.service = some v → s.ct.pendingMode = .sleep →
    let asleep (line : LineState) (t : State) : Prop :=
      t.power = .on ∧ t.ct = { s.ct with gain := 100, mode := .sleep, stab := none, pendingMode := .none } ∧
      t.li = { s.li with receiver := .stopped, inFrame := false, line := line, ones := 0, queue := [], service := none,
                         overrun := false } ∧
      t.aa = { auth := .vacant, offer := none, p1 := ⟨.silent, none⟩, p2 := ⟨.silent, none⟩, p4 := ⟨.silent, none⟩ } ∧
      t.rw = { isOpen := false, lead := .a, rear := 0, front := 0, next := 0, segs := [], horizonLow := false } ∧
      t.odo = { s.odo with timer := none, acc := ⟨0, 0⟩, failure := ⟨0, 0⟩, disagree := 0, disagreeTold := false,
                           agree := 0, ref := none } ∧
      t.pfu = { s.pfu with conf := .unplaced, miss := 0, missTold := false, marks := [] } ∧ t.ss = s.ss ∧
      (∀ k, t.ac.get k =
        if fitted s k = true then
          { s.ac.get k with state := .unhomed, theta := 0, sched := 0, persist := 0, mark := false, untrusted := false,
                            homingT := none, lockT := none, settle := none, centringT := none, conv := .none,
                            drive := .off, solenoid := false }
        else s.ac.get k) ∧
      t.sv.hold = .none ∧ t.sv.latch = s.sv.latch ∧ OnlyEnds s t ∧
      (ViewInv s → Ends (fun f => ofFaultedChannel s f || ofOpenRoute s f) s t) ∧
      (∀ k, fitted s k = true → (∃ p, (s.ac.get k).state = .faulted p) →
        ∀ f ∈ t.sv.faults, f.subject = .chan k → f.code ∈ channelCodes → f.active = false) ∧
      t.path = { atPfu := [], atRw := [], atSs := [], corrections := [], marks := [] } ∧ t.pending = s.pending
    (v.reply ≠ none → ∃ t, exec .endOfService s = .next t ∧ asleep .busy t) ∧
    (v.reply = none → 500 ≤ v.age → ∃ t, exec .replyDrop s = .next t ∧ asleep s.li.line t)

/-- At the end of the service that accepted RESTART: gain 100, authority VACANT, the route closed, hold NONE, every
schedule record at its power-on values and every fitted channel in HOMING anew; the mode, the Odometer, the line, the
latch and the fault list stand, but for the records that end: those of each channel that leaves FAULTED, and of a
standing BEACON_MISSED and HORIZON_SHORTFALL. The frames that wait are then served against the state so restarted, as
at the end of any service (R27, R28, R87, R120, R125, R171, R180, R194, R206). The model's choices in it: log 4, 8, 9,
27. -/
def Obligations.RestartTakesEffectAtTheEndOfItsService : Prop :=
  ∀ (s : State) (v : Service), s.power = .on → s.li.service = some v → s.ct.pendingMode = .restart →
    let restarted (li : Li) (t : State) : Prop :=
      t.power = .on ∧ t.ct = { s.ct with gain := 100, pendingMode := .none } ∧ t.li = li ∧
      t.aa = { auth := .vacant, offer := none, p1 := ⟨.silent, none⟩, p2 := ⟨.silent, none⟩, p4 := ⟨.silent, none⟩ } ∧
      t.rw = { isOpen := false, lead := .a, rear := 0, front := 0, next := 0, segs := [], horizonLow := false } ∧
      t.odo = s.odo ∧ t.pfu = { s.pfu with conf := .unplaced, miss := 0, missTold := false, marks := [] } ∧
      (∀ k, t.ss.get k = { source := .carried, carried := 0, carry := 0, look := none }) ∧
      (s.ct.mode = .run → ∀ k, t.ac.get k =
        if fitted s k = true then
          { s.ac.get k with state := .homing .assessing, theta := 0, sched := 0, persist := 0, mark := false,
                            untrusted := false, homingT := some 0, lockT := none, settle := none, centringT := none,
                            drive := .off, solenoid := false,
                            conv := if (s.ac.get k).conv = .none then .inFlight false else .inFlight true }
        else s.ac.get k) ∧
      t.sv.hold = .none ∧ t.sv.latch = s.sv.latch ∧ OnlyEnds s t ∧
      (ViewInv s → Ends (fun f => ofFaultedChannel s f || ofOpenRoute s f) s t) ∧
      t.path = { s.path with marks := s.path.marks.map fun m => { m with isVoid := true } } ∧ t.pending = s.pending
    let again (t : State) : State := t.setLi { t.li with service := some v }
    (v.reply ≠ none → ∃ t, restarted { s.li with receiver := .hunting, line := .busy, ones := 0, service := none } t ∧
      (s.li.queue = [] → exec .endOfService s = .next t) ∧
      exec .endOfService s = exec .endOfService (again t) ∧ ∃ u, exec .endOfService s = .next u) ∧
    (v.reply = none → 500 ≤ v.age → ∃ t, restarted { s.li with service := none } t ∧
      (s.li.queue = [] → exec .replyDrop s = .next t) ∧
      exec .replyDrop s = exec .replyDrop (again t) ∧ ∃ u, exec .replyDrop s = .next u)

/-- WAKE in SLEEP begins WAKING: the stabilisation timer starts, the frame timer starts anew, the receiver waits for
an idle line and the schedule's records take their power-on values; in any other mode it is no event. The
stabilisation timer's expiry in WAKING enters RUN, with every fitted channel in HOMING (R28, R70, R98, R180, R187,
R189, R192). The model's choices in it: log 4, 14, 27. -/
def Obligations.WakingBeginsAndEnds : Prop :=
  ∀ s : State, s.power = .on →
    (s.ct.mode = .sleep → ∃ t, exec .wake s = .next t ∧
      t.ct = { s.ct with mode := .waking, stab := some ⟨s.ct.table.stabTime, 0⟩ } ∧
      t.odo = { s.odo with timer := some ⟨s.ct.table.frameInterval, 0⟩, acc := ⟨0, 0⟩, failure := ⟨0, 0⟩, disagree := 0,
                           disagreeTold := false, agree := 0, ref := none } ∧
      t.li = { s.li with receiver := .waiting, inFrame := true, line := .busy, ones := 0 } ∧
      t.aa = { auth := .vacant, offer := none, p1 := ⟨.silent, none⟩, p2 := ⟨.silent, none⟩, p4 := ⟨.silent, none⟩ } ∧
      (∀ k, t.ss.get k = { source := .carried, carried := 0, carry := 0, look := none }) ∧
      t.ac = s.ac ∧ KeepsOrders s t ∧ (Inv s → KeepsFaults s t) ∧
      t.rw = s.rw ∧ t.pfu = s.pfu ∧ t.path = s.path ∧ t.power = .on ∧ t.pending = s.pending) ∧
    (s.ct.mode ≠ .sleep → exec .wake s = .next s) ∧
    (∀ tm, s.ct.mode = .waking → s.ct.stab = some tm → ∃ t, exec .stabilisationTimerExpiry s = .next t ∧
      t.ct = { s.ct with mode := .run, stab := none } ∧
      (∀ k, t.ac.get k =
        if fitted s k = true then
          { s.ac.get k with state := .homing .assessing, theta := 0, homingT := some 0, lockT := none, settle := none,
                            centringT := none, drive := .off, solenoid := false,
                            conv := if (s.ac.get k).conv = .none then .inFlight false else .inFlight true }
        else s.ac.get k) ∧
      KeepsOrders s t ∧ (Inv s → KeepsFaults s t) ∧ t.li = s.li ∧ t.aa = s.aa ∧ t.rw = s.rw ∧ t.odo = s.odo ∧
      t.pfu = s.pfu ∧ t.ss = s.ss ∧ t.path = s.path ∧ t.power = .on ∧ t.pending = s.pending) ∧
    ((s.ct.mode ≠ .waking ∨ s.ct.stab = none) → exec .stabilisationTimerExpiry s = .next s)

/-- The reset input and the loss of supply stop a part: outputs off, timers stopped, work abandoned; it takes nothing
but them and a power-on reset, which brings every block to its power-on values with the straps and the sensors as read
(R26, R28, R52, R71, R90, R126, R144, R163, R168, R181, R188, R196). The model's choices in it: log 2, 12, 14, 28. -/
def Obligations.ResetAndSupply : Prop :=
  ∀ s : State,
    let stopped (p : Power) (t : State) : Prop :=
      t.power = p ∧ t.li.service = none ∧ t.li.queue = [] ∧ t.odo.timer = none ∧ t.ct.stab = none ∧
      t.aa.offer = none ∧ t.aa.p1.timer = none ∧ t.aa.p2.timer = none ∧ t.aa.p4.timer = none ∧
      (∀ k, (t.ac.get k).drive = .off ∧ (t.ac.get k).solenoid = false ∧ (t.ac.get k).conv = .none ∧
        (t.ac.get k).lockT = none ∧ (t.ac.get k).homingT = none ∧ (t.ac.get k).settle = none ∧
        (t.ac.get k).centringT = none) ∧
      t.path = { atPfu := [], atRw := [], atSs := [], corrections := [], marks := [] } ∧ t.pending = s.pending
    (∃ t, exec .supplyLoss s = .next t ∧ stopped .noSupply t) ∧
    (s.power ≠ .noSupply → ∃ t, exec .resetAsserted s = .next t ∧ stopped .inReset t) ∧
    (s.power = .noSupply → exec .resetAsserted s = .next s) ∧
    (s.power ≠ .on → ∀ c : Instr, c ≠ .resetAsserted → c ≠ .supplyLoss → (∀ a p, c ≠ .powerOnReset a p) →
      exec c s = .next s) ∧
    (∀ straps pins, ∃ t, exec (.powerOnReset straps pins) s = .next t ∧
      t.power = .on ∧ t.pending = s.pending ∧
      t.li = { address := 16 + straps % 8, receiver := .hunting, inFrame := false, line := .busy, ones := 0, queue := [],
               service := none, overrun := false, bitTime := s.li.bitTime } ∧
      t.aa = { auth := .vacant, offer := none, p1 := ⟨.silent, none⟩, p2 := ⟨.silent, none⟩, p4 := ⟨.silent, none⟩ } ∧
      t.rw = { isOpen := false, lead := .a, rear := 0, front := 0, next := 0, segs := [], horizonLow := false } ∧
      t.odo = { timer := some ⟨10, 0⟩, frameNo := 0, acc := ⟨0, 0⟩, tacho := ⟨.working, .working⟩, failure := ⟨0, 0⟩,
                disagree := 0, disagreeTold := false, agree := 0, r := 0, d := 0, quality := .none, lastInterval := 10,
                quiet := 2000, standstill := .standstill, ref := none } ∧
      t.pfu = { conf := .unplaced, u := 0, miss := 0, missTold := false, lastCorrection := none, marks := [] } ∧
      t.ct.gain = 100 ∧ t.ct.mode = .waking ∧ t.ct.stab = some ⟨640, 0⟩ ∧ t.ct.pendingMode = .none ∧
      t.ct.table =
        { frameInterval := 10, anticipation := 4, retention := 15000, carryLimit := 100, horizonCond := .shortDistance,
          horizonWarning := 60000, freeThreshold := 8, fitting := .twoBogies, lockTime := 20, settleFrames := 5,
          homingLimit := 300, lockWindow := 50, lambda := ⟨5890, 5890⟩, readerOffset := 0, drift := 10, uMax := 3000,
          uFix := 100, slideGain := 60, presenceTimeout := 200, offerTimeout := 2000, standstillTime := 500,
          refHold := 50, stabTime := 640,
          chan :=
            let channel (offset : Int) : ChanConfig :=
              { enable := true, offset := offset, lever := 900, angleLimit := 600, slew := 20, tolerance := 30,
                persistLimit := 25, kp := 32, dmax := 800, homingDuty := 250, scale := 40 }
            ⟨channel 6100, channel 4300, channel (-4300), channel (-6100)⟩ } ∧
      t.ct.used = ⟨20, 100⟩ ∧
      (∀ k, t.ss.get k = { source := .carried, carried := 0, carry := 0, look := none }) ∧
      (∀ k, t.ac.get k =
        { state := .unhomed, theta := 0, sched := 0, m := 0, z := 2048, persist := 0, mark := false, untrusted := false,
          homingT := none, lockT := none, settle := none, centringT := none, conv := .none, drive := .off,
          solenoid := false, contact := decodeContact (pins.get k).lke (pins.get k).lkr,
          centre := decodeCentre (pins.get k).ctl (pins.get k).ctr }) ∧
      t.sv.hold = .none ∧ t.sv.steering = .unsteered ∧ t.sv.level = .reduced ∧ t.sv.latch = false ∧
      t.sv.shortfall = false ∧ (∀ k, t.sv.view.get k = ⟨.unhomed, false, .carried⟩) ∧ t.sv.routeOpen = false ∧
      t.sv.conf = .unplaced ∧ t.sv.faults = [] ∧ t.sv.listFull = false ∧ t.sv.notice = ⟨false, false, false, false⟩ ∧
      t.path = { atPfu := [], atRw := [], atSs := [], corrections := [], marks := [] })

/-! ### The Odometer -/

/-- Each tacho edge counts once, +1 with signal A leading and −1 with signal B leading, whatever the tacho's state;
none is counted in SLEEP (R55, R192, R211). The start of a drive period makes a waiting duty the applied one (R95).
The model's choices in it: log 16, 24. -/
def Obligations.EdgesCountAndPeriodsApply : Prop :=
  ∀ s : State, s.power = .on →
    (s.ct.mode = .sleep → ∀ x e, exec (.tachoCount x e) s = .next s) ∧
    (s.ct.mode ≠ .sleep → ∀ (sig : TachoSignal) (a b : Bool),
      let n : Int := if (sig = .a ∧ a ≠ b) ∨ (sig = .b ∧ a = b) then 1 else -1
      exec (.tachoCount .t1 ⟨sig, a, b⟩) s = .next (s.setOdo { s.odo with acc := ⟨s.odo.acc.t1 + n, s.odo.acc.t2⟩ }) ∧
      exec (.tachoCount .t2 ⟨sig, a, b⟩) s = .next (s.setOdo { s.odo with acc := ⟨s.odo.acc.t1, s.odo.acc.t2 + n⟩ })) ∧
    (∀ k applied duty, (s.ac.get k).drive = .energised applied (some duty) →
      exec (.drivePeriodStart k) s =
        .next (s.setAc (s.ac.set k { s.ac.get k with drive := .energised duty none }))) ∧
    (∀ k, (∀ applied duty, (s.ac.get k).drive ≠ .energised applied (some duty)) →
      exec (.drivePeriodStart k) s = .next s)

/-- The motion and the quality of a frame, by the first case of R59 that holds: the reference under slide or spin, the mean
of two agreeing tachos, one tacho chosen by R60, the one WORKING tacho, the smaller of two saturated, the fresh reference,
or nothing. A count enters held to ±127 (R55, R56, R59, R60). -/
def Obligations.MotionByTheFirstCase : Prop :=
  ∀ i : FrameInput,
    let e1 : Int := max (-127) (min i.count.t1 127) * i.lambda.t1
    let e2 : Int := max (-127) (min i.count.t2 127) * i.lambda.t2
    let w1 := i.tacho.t1 = .working
    let w2 := i.tacho.t2 = .working
    let sat1 := 127 < i.count.t1.natAbs
    let sat2 := 127 < i.count.t2.natAbs
    let agree := (e1 - e2).natAbs ≤ 2 * max i.lambda.t1 i.lambda.t2 + max e1.natAbs e2.natAbs / 16
    let slip := ∃ ref, i.fresh = some ref ∧ (ref.slide = true ∨ ref.spin = true)
    let braking := ∃ ref, i.fresh = some ref ∧ ref.braking = true
    (∀ ref, i.fresh = some ref → slip →
      i.case = .c1 ∧ i.motion = ref.v * i.interval ∧ i.case.quality = .reference) ∧
    (¬slip →
      (w1 → w2 → ¬sat1 → ¬sat2 → agree →
        i.case = .c2 ∧ i.motion = (e1 + e2).tdiv 2 ∧ i.case.quality = .agreed) ∧
      (w1 → w2 → ¬sat1 → ¬sat2 → ¬agree → i.case = .c3 ∧ i.case.quality = .single ∧
        (braking → i.motion = if e1.natAbs < e2.natAbs then e2 else e1) ∧
        (¬braking → i.motion = if e2.natAbs < e1.natAbs then e2 else e1)) ∧
      (w1 → w2 → sat1 → ¬sat2 → i.case = .c3 ∧ i.motion = e2 ∧ i.case.quality = .single) ∧
      (w1 → w2 → ¬sat1 → sat2 → i.case = .c3 ∧ i.motion = e1 ∧ i.case.quality = .single) ∧
      (w1 → ¬w2 → i.case = .c4 ∧ i.motion = e1 ∧ i.case.quality = .single) ∧
      (¬w1 → w2 → i.case = .c4 ∧ i.motion = e2 ∧ i.case.quality = .single) ∧
      (w1 → w2 → sat1 → sat2 →
        i.case = .c5 ∧ (i.motion = if e2.natAbs < e1.natAbs then e2 else e1) ∧ i.case.quality = .single) ∧
      (¬w1 → ¬w2 → ∀ ref, i.fresh = some ref →
        i.case = .c6a ∧ i.motion = ref.v * i.interval ∧ i.case.quality = .reference) ∧
      (¬w1 → ¬w2 → i.fresh = none → i.case = .c6b ∧ i.motion = 0 ∧ i.case.quality = .none))

/-- The expiry of the running frame timer reloads it with the interval configured, counts the frame, takes and clears
the counts, adds the motion in the route's sense to r within its range, decides the standstill state, withdraws a
standing offer when motion begins, and sends the position sample; a stopped timer does not expire (R53 to R55, R58,
R61, R65 to R67, R155). STANDSTILL_REACHED standing alone makes the same decision. The model's choices in it: log 2,
4, 5, 26. -/
def Obligations.FrameExpiryClosesTheFrame : Prop :=
  ∀ s : State, s.power = .on →
    (s.odo.timer = none → exec .frameTimerExpiry s = .next s) ∧
    (∀ ft, s.odo.timer = some ft →
      let ref := s.odo.ref.map fun r =>
        let age := r.age + (ft.interval * 250 - ft.elapsed)
        { r with age := age, stale := r.stale || decide (s.ct.table.refHold * 250 < age) }
      let fresh := ref.filter fun r => r.stale = false
      let i : FrameInput :=
        { count := s.odo.acc, tacho := s.odo.tacho, fresh := fresh, lambda := s.ct.table.lambda, interval := ft.interval }
      let d := if s.rw.lead = .a then i.motion else -i.motion
      let working := s.odo.tacho.t1 = .working ∨ s.odo.tacho.t2 = .working
      let quiet := (s.odo.tacho.t1 = .working → s.odo.acc.t1 = 0) ∧ (s.odo.tacho.t2 = .working → s.odo.acc.t2 = 0) ∧
        (∀ r, fresh = some r → r.v = 0)
      ∃ t, exec .frameTimerExpiry s = .next t ∧
        t.odo.timer = some ⟨s.ct.table.frameInterval, 0⟩ ∧ t.odo.frameNo = (s.odo.frameNo + 1) % 65536 ∧
        t.odo.acc = ⟨0, 0⟩ ∧ t.odo.ref = ref ∧ t.odo.lastInterval = ft.interval ∧ t.odo.d = d ∧
        t.odo.quality = i.case.quality ∧ (t.odo.r : Int) = max 0 (min ((s.odo.r : Int) + d) 999999999999) ∧
        (working → quiet → t.odo.quiet = min (s.odo.quiet + ft.interval) 2000 ∧
          t.odo.standstill =
            if s.ct.table.standstillTime ≤ min (s.odo.quiet + ft.interval) 2000 then .standstill
            else s.odo.standstill) ∧
        (working → ¬quiet → t.odo.quiet = 0 ∧ t.odo.standstill = .moving) ∧
        (¬working → (∃ r, fresh = some r ∧ r.v = 0) →
          t.odo.quiet = s.odo.quiet ∧ t.odo.standstill = .standstill) ∧
        (¬working → (∀ r, fresh = some r → r.v ≠ 0) → t.odo.quiet = 0 ∧ t.odo.standstill = .moving) ∧
        t.aa = (match s.aa.auth, s.odo.standstill, t.odo.standstill with
          | .offered m _, .standstill, .moving => { s.aa with auth := .held m, offer := none }
          | _, _, _ => s.aa) ∧
        t.path = { s.path with atPfu := s.path.atPfu ++
          [{ r := t.odo.r, d := d, quality := i.case.quality, standstill := t.odo.standstill,
             slip := fresh.any fun r => r.slide || r.spin }] } ∧
        t.power = .on ∧ t.li = s.li ∧ t.rw = s.rw ∧ t.pfu = s.pfu ∧ t.ss = s.ss ∧ t.ac = s.ac ∧ t.ct = s.ct ∧
        t.sv = { s.sv with faults := t.sv.faults, listFull := t.sv.listFull, notice := t.sv.notice } ∧
        t.pending = s.pending) ∧
    ((s.odo.tacho.t1 = .working ∨ s.odo.tacho.t2 = .working) → s.odo.standstill = .moving →
      s.ct.table.standstillTime ≤ s.odo.quiet →
      exec .standstillReached s = .next (s.setOdo { s.odo with standstill := .standstill })) ∧
    (((s.odo.tacho.t1 = .failed ∧ s.odo.tacho.t2 = .failed) ∨ s.odo.standstill = .standstill ∨
        s.odo.quiet < s.ct.table.standstillTime) → exec .standstillReached s = .next s)

/-- The watch of the tachos at a frame's closing: a WORKING tacho that reads nothing while the other, or a fresh
reference, shows motion counts a failure frame, and its 25th in a row makes it FAILED with TACHO_FAILED, which reaches
the list before a TACHO_DISAGREE of the same closing; a FAILED tacho stays so; the disagreement and agreement streaks
follow the frame's case, and raise or end TACHO_DISAGREE at 50. A disagreement is reported once: while it stands at 50
the Odometer is silent (R200). The three rows standing alone do the same where their condition stands (R62, R64). The
model's choices in it: log 2, 5, 10, 26. -/
def Obligations.TachosAreWatched : Prop :=
  ∀ (s : State) (ft : FrameTimer), s.power = .on → s.odo.timer = some ft → RangeInv s →
    let ref := s.odo.ref.map fun r =>
      let age := r.age + (ft.interval * 250 - ft.elapsed)
      { r with age := age, stale := r.stale || decide (s.ct.table.refHold * 250 < age) }
    let fresh := ref.filter fun r => r.stale = false
    let i : FrameInput :=
      { count := s.odo.acc, tacho := s.odo.tacho, fresh := fresh, lambda := s.ct.table.lambda, interval := ft.interval }
    (∃ t, exec .frameTimerExpiry s = .next t ∧
      (∀ x y : Tacho, x ≠ y →
        let check := s.odo.acc.get x = 0 ∧
          ((s.odo.tacho.get y = .working ∧ 3 ≤ (s.odo.acc.get y).natAbs) ∨
            (s.odo.tacho.get y = .failed ∧
              ∃ r, fresh = some r ∧ 3 * s.ct.table.lambda.get x ≤ (r.v * ft.interval).natAbs))
        (s.odo.tacho.get x = .failed →
          t.odo.tacho.get x = .failed ∧ t.odo.failure.get x = s.odo.failure.get x) ∧
        (s.odo.tacho.get x = .working → ¬check → t.odo.tacho.get x = .working ∧ t.odo.failure.get x = 0) ∧
        (s.odo.tacho.get x = .working → check → s.odo.failure.get x < 24 →
          t.odo.tacho.get x = .working ∧ t.odo.failure.get x = s.odo.failure.get x + 1) ∧
        (s.odo.tacho.get x = .working → check → s.odo.failure.get x = 24 →
          t.odo.tacho.get x = .failed ∧ t.odo.failure.get x = 0 ∧
          (s.sv.faults.length < 16 → ∃ f ∈ t.sv.faults, f.code = .tachoFailed ∧ f.subject = .tacho x ∧
            f.active = true ∧ f.frame = (s.odo.frameNo + 1) % 65536))) ∧
      (i.case = .c1 → t.odo.disagree = s.odo.disagree ∧ t.odo.agree = s.odo.agree) ∧
      (i.case = .c2 → t.odo.disagree = 0 ∧ t.odo.agree = min (s.odo.agree + 1) 50) ∧
      (i.case = .c3 → t.odo.disagree = min (s.odo.disagree + 1) 50 ∧ t.odo.agree = 0) ∧
      (i.case ≠ .c1 → i.case ≠ .c2 → i.case ≠ .c3 → t.odo.disagree = 0 ∧ t.odo.agree = 0) ∧
      (i.case = .c3 → s.odo.disagree = 49 → s.sv.faults.length < 15 →
        ∃ f ∈ t.sv.faults, f.code = .tachoDisagree ∧ f.subject = .none ∧ f.active = true ∧
          f.frame = (s.odo.frameNo + 1) % 65536) ∧
      (i.case = .c3 → s.odo.disagree = 50 → ∀ f ∈ t.sv.faults, f.code = .tachoDisagree → f ∈ s.sv.faults) ∧
      (t.odo.disagreeTold = true ↔ t.odo.disagree = 50) ∧
      (i.case = .c2 → s.odo.agree = 49 → ∀ f ∈ t.sv.faults, f.code = .tachoDisagree → f.subject = .none →
        f.active = false)) ∧
    (∀ x, exec (.tachoFailed x) s = .next s) ∧
    (∀ x n, 25 ≤ n → s.odo.tacho.get x = .working →
      let u := s.setOdo { s.odo with failure := s.odo.failure.set x n }
      exec (.tachoFailed x) u = .next (raiseFault .tachoFailed (.tacho x)
        (s.setOdo { s.odo with tacho := s.odo.tacho.set x .failed, failure := s.odo.failure.set x 0 }))) ∧
    exec .tachoDisagree s = .next s ∧
    (∀ n, 50 ≤ n →
      let u (told : Bool) := s.setOdo { s.odo with disagree := n, disagreeTold := told }
      exec .tachoDisagree (u false) = .next (raiseFault .tachoDisagree .none (u true)) ∧
      exec .tachoDisagree (u true) = .next (u true)) ∧
    (s.odo.agree = 50 → exec .tachoAgreementReached s = .next (reportInactive .tachoDisagree .none s)) ∧
    (s.odo.agree < 50 → exec .tachoAgreementReached s = .next s)

/-- A fault report is taken by the five cases of R199: the record of its code and subject, if the list holds one, is stamped
anew and becomes active where it stands; otherwise a new record joins the end, in the place of the oldest inactive one if
the list is full; and with sixteen active ones it is lost, with the list-full flag set. Every master's notice flag is set,
but where the record was active already. An inactive report ends the records of its code and subject (R197 to R202). -/
def Obligations.FaultReportsByTheFiveCases : Prop :=
  ∀ (c : FaultCode) (sub : Subject) (s : State),
    let at_ := if s.pfu.conf = .unplaced then none else some (s.odo.r / 1000)
    let new : FaultRecord := { code := c, subject := sub, distance := at_, frame := s.odo.frameNo, active := true }
    let same (f : FaultRecord) : Prop := f.code = c ∧ f.subject = sub
    let held (before after : List FaultRecord) : Prop :=
      after.length = before.length ∧ ∀ (n : Nat) (f : FaultRecord), before[n]? = some f →
        (same f → after[n]? = some new) ∧ (¬same f → after[n]? = some f)
    OnlySv s (raiseFault c sub s) ∧ KeepsOrders s (raiseFault c sub s) ∧
    ((∃ f ∈ s.sv.faults, same f ∧ f.active = false) →
      held s.sv.faults (raiseFault c sub s).sv.faults ∧ (raiseFault c sub s).sv.listFull = s.sv.listFull ∧
      (raiseFault c sub s).sv.notice = ⟨true, true, true, true⟩) ∧
    ((∃ f ∈ s.sv.faults, same f) → (∀ f ∈ s.sv.faults, same f → f.active = true) →
      held s.sv.faults (raiseFault c sub s).sv.faults ∧ (raiseFault c sub s).sv.listFull = s.sv.listFull ∧
      (raiseFault c sub s).sv.notice = s.sv.notice) ∧
    ((∀ f ∈ s.sv.faults, ¬same f) → s.sv.faults.length < 16 →
      (raiseFault c sub s).sv.faults = s.sv.faults ++ [new] ∧ (raiseFault c sub s).sv.listFull = s.sv.listFull ∧
      (raiseFault c sub s).sv.notice = ⟨true, true, true, true⟩) ∧
    (∀ before old after, (∀ f ∈ s.sv.faults, ¬same f) → 16 ≤ s.sv.faults.length →
      s.sv.faults = before ++ old :: after → (∀ f ∈ before, f.active = true) → old.active = false →
      (raiseFault c sub s).sv.faults = before ++ after ++ [new] ∧ (raiseFault c sub s).sv.listFull = false ∧
      (raiseFault c sub s).sv.notice = ⟨true, true, true, true⟩) ∧
    ((∀ f ∈ s.sv.faults, ¬same f) → 16 ≤ s.sv.faults.length → (∀ f ∈ s.sv.faults, f.active = true) →
      (raiseFault c sub s).sv.faults = s.sv.faults ∧ (raiseFault c sub s).sv.listFull = true ∧
      (raiseFault c sub s).sv.notice = ⟨true, true, true, true⟩) ∧
    OnlySv s (reportInactive c sub s) ∧ KeepsOrders s (reportInactive c sub s) ∧ OnlyEnds s (reportInactive c sub s) ∧
    (∀ (n : Nat) (f : FaultRecord), s.sv.faults[n]? = some f →
      (same f → (reportInactive c sub s).sv.faults[n]? = some { f with active := false }) ∧
      (¬same f → (reportInactive c sub s).sv.faults[n]? = some f))

/-- The frame number counts expiries: each expiry of the running frame timer adds one modulo 65,536, a power-on reset makes
it 0, no other command or passing of time changes it; and a fault record that a step stamps bears the number standing
after the step, so that of the frame being closed, or of the last expiry (R54). -/
def Obligations.FrameNumberCountsExpiriesAndStampsFaults : Prop :=
  ∀ s t : State, step s = .next t →
    (∀ rest, s.pending = .frameTimerExpiry :: rest → s.power = .on → s.odo.timer ≠ none →
      t.odo.frameNo = (s.odo.frameNo + 1) % 65536) ∧
    (∀ a p rest, s.pending = .powerOnReset a p :: rest → t.odo.frameNo = 0) ∧
    ((∀ rest, s.pending = .frameTimerExpiry :: rest → s.power ≠ .on ∨ s.odo.timer = none) →
      (∀ a p rest, s.pending ≠ .powerOnReset a p :: rest) → t.odo.frameNo = s.odo.frameNo) ∧
    (∀ f ∈ t.sv.faults, f.frame = t.odo.frameNo ∨
      ∃ g ∈ s.sv.faults, g.code = f.code ∧ g.subject = f.subject ∧ g.frame = f.frame)

/-! ### Position and beacons -/

/-- A correction that arrives sets r to the whole mm of r plus the correction, the µm fraction zero, within r's range,
and one voided by a PLACE or OPEN_ROUTE is discarded (R68). A mark that arrives leaves the marks in flight and gives
its status to a PENDING beacon of the record it names, and one voided by an emptying of the window is discarded (R15,
R77). The model's choices in it: log 6. -/
def Obligations.CorrectionsAndMarksArrive : Prop :=
  ∀ s : State, s.power = .on →
    (s.path.corrections = [] → exec .positionCorrection s = .next s) ∧
    (∀ c rest, s.path.corrections = ⟨c, true⟩ :: rest →
      exec .positionCorrection s = .next (s.setPath { s.path with corrections := rest })) ∧
    (∀ c rest, s.path.corrections = ⟨c, false⟩ :: rest → ∃ r : Nat,
      (r : Int) = max 0 (min (((s.odo.r / 1000 : Nat) + c) * 1000) 999999999999) ∧
      exec .positionCorrection s =
        .next ((s.setPath { s.path with corrections := rest }).setOdo { s.odo with r := r })) ∧
    (s.path.marks = [] → exec .beaconMark s = .next s) ∧
    (∀ m rest, s.path.marks = ⟨m, true⟩ :: rest →
      exec .beaconMark s = .next (s.setPath { s.path with marks := rest })) ∧
    (∀ m rest, s.path.marks = ⟨m, false⟩ :: rest → ∃ segs,
      exec .beaconMark s = .next (((s.setPath { s.path with marks := rest }).setPfu
        { s.pfu with marks := s.pfu.marks.erase m }).setRw { s.rw with segs := segs }) ∧
      segs.length = s.rw.segs.length ∧
      ∀ (n : Nat) (g g' : Segment), s.rw.segs[n]? = some g → segs[n]? = some g' →
        (∀ b, g.beacon = some b → g.index = m.index → b.status = .pending →
          g' = { g with beacon := some { b with status := m.status } }) ∧
        ((g.beacon = none ∨ g.index ≠ m.index ∨ ∃ b, g.beacon = some b ∧ b.status ≠ .pending) → g' = g))

/-- A position sample at the Position Fix Unit: in UNPLACED it is passed on and nothing changes; otherwise U grows by
the frame's quality, each PENDING beacon of the window, from rear to front at its record's start plus its offset and
with the mark in flight on its index applied, that lies behind the reader by more than the half-width is marked MISSED
with its penalty, the miss count that reaches 2 raises BEACON_MISSED, PLACED becomes DRIFTED beyond U_max, and the
sample is passed on unchanged (R5, R15, R73 to R79). A miss count is reported once: while it stands at 2 or more the
unit is silent, and BEACON_MISSED standing alone reports what stands unreported. The model's choices in it: log 2, 6,
29. -/
def Obligations.SampleAtPositionFix : Prop :=
  ∀ s : State, s.power = .on → RangeInv s →
    (s.path.atPfu = [] → exec .sampleAtPfu s = .next s) ∧
    (∀ sample rest, s.path.atPfu = sample :: rest → s.pfu.conf = .unplaced →
      exec .sampleAtPfu s = .next (s.setPath { s.path with atPfu := rest, atRw := s.path.atRw ++ [sample] })) ∧
    (∀ sample rest, s.path.atPfu = sample :: rest → s.pfu.conf ≠ .unplaced →
      let travelled := sample.d.natAbs * s.ct.table.drift / 1000
      let grown := min (s.pfu.u + match sample.quality with
        | .agreed => travelled
        | .single => 2 * travelled
        | .reference => 2 * travelled
        | .none => 2 * s.odo.lastInterval * 1000) 65535000
      let reader : Int := if s.rw.lead = .a then ((sample.r / 1000 : Nat) : Int) + s.ct.table.readerOffset
        else ((sample.r / 1000 : Nat) : Int) - s.ct.table.readerOffset
      let seen : List BeaconAt := if s.rw.isOpen then
          (List.range s.rw.segs.length).filterMap fun n => (s.rw.segs[n]?).bind fun g => g.beacon.map fun b =>
            { index := g.index, id := b.id
              distance := s.rw.rear + ((s.rw.segs.take n).map fun g => g.length).sum + b.offset
              status := match s.pfu.marks.find? fun m => m.index == g.index with
                | some m => if b.status = .pending then m.status else b.status
                | none => b.status }
        else []
      let missed := seen.filter fun b =>
        b.status == .pending && decide ((b.distance : Int) + ((grown / 1000 + 500 : Nat) : Int) < reader)
      let marks := missed.map fun b => Mark.mk b.index .missed
      ∃ t, exec .sampleAtPfu s = .next t ∧
        t.pfu = { s.pfu with
          u := min (grown + missed.length * 1000000) 65535000, miss := min (s.pfu.miss + missed.length) 255,
          missTold := decide (2 ≤ s.pfu.miss + missed.length), marks := s.pfu.marks ++ marks,
          conf := if s.pfu.conf = .placed ∧
              s.ct.table.uMax * 1000 < min (grown + missed.length * 1000000) 65535000 then .drifted
            else s.pfu.conf } ∧
        t.path = { s.path with atPfu := rest, atRw := s.path.atRw ++ [sample],
                               marks := s.path.marks ++ marks.map fun m => MarkMsg.mk m false } ∧
        (s.pfu.miss < 2 → 2 ≤ s.pfu.miss + missed.length → Raised .beaconMissed .none s t) ∧
        ((s.pfu.miss + missed.length < 2 ∨ 2 ≤ s.pfu.miss) → t.pfu.conf = s.pfu.conf → KeepsFaults s t) ∧
        KeepsOrders s t ∧ t.power = .on ∧ t.li = s.li ∧ t.aa = s.aa ∧ t.rw = s.rw ∧ t.odo = s.odo ∧ t.ss = s.ss ∧
        t.ac = s.ac ∧ t.ct = s.ct ∧ t.pending = s.pending) ∧
    exec .beaconMissed s = .next s ∧
    (∀ n, 2 ≤ n →
      let u (told : Bool) := s.setPfu { s.pfu with miss := n, missTold := told }
      exec .beaconMissed (u false) = .next (raiseFault .beaconMissed .none (u true)) ∧
      exec .beaconMissed (u true) = .next (u true))

/-- A beacon telegram, judged against the window's beacons from rear to front, each at its record's start plus its
offset and with the mark in flight on its index applied: ignored with a bad check or in UNPLACED; a match with the
nearest PENDING beacon of its ID within the half-width of the reader, which places the vehicle and sends the mark and
the correction; a repeat of a MATCHED beacon within 5,000 mm, or an ID the window does not hold, changes nothing;
anything else is a conflict, which makes the confidence DRIFTED and raises POSITION_CONFLICT (R5, R15, R76, R79 to
R83). The model's choices in it: log 10. -/
def Obligations.BeaconTelegramMatchesRepeatsOrConflicts : Prop :=
  ∀ (id : Nat) (s : State), s.power = .on → WindowInv s →
    exec (.beaconTelegram id false) s = .next s ∧
    (s.pfu.conf = .unplaced → exec (.beaconTelegram id true) s = .next s) ∧
    (s.pfu.conf ≠ .unplaced →
      let reader : Int := if s.rw.lead = .a then ((s.odo.r / 1000 : Nat) : Int) + s.ct.table.readerOffset
        else ((s.odo.r / 1000 : Nat) : Int) - s.ct.table.readerOffset
      let seen : List BeaconAt := if s.rw.isOpen then
          (List.range s.rw.segs.length).filterMap fun n => (s.rw.segs[n]?).bind fun g => g.beacon.map fun b =>
            { index := g.index, id := b.id
              distance := s.rw.rear + ((s.rw.segs.take n).map fun g => g.length).sum + b.offset
              status := match s.pfu.marks.find? fun m => m.index == g.index with
                | some m => if b.status = .pending then m.status else b.status
                | none => b.status }
        else []
      let away (b : BeaconAt) : Nat := ((b.distance : Int) - reader).natAbs
      let candidate (b : BeaconAt) : Prop :=
        b ∈ seen ∧ b.id = id ∧ b.status = .pending ∧ away b ≤ s.pfu.u / 1000 + 500
      let repeated := ∃ b ∈ seen, b.id = id ∧ b.status = .matched ∧ away b ≤ 5000
      (∀ b, candidate b → (∀ b', candidate b' → b' ≠ b → away b < away b' ∨
          (away b = away b' ∧ b.distance < b'.distance)) →
        ∃ t, exec (.beaconTelegram id true) s = .next t ∧
          t.pfu = { conf := .placed, u := s.ct.table.uFix * 1000, miss := 0, missTold := false,
                    lastCorrection := some ((b.distance : Int) - reader),
                    marks := s.pfu.marks ++ [⟨b.index, .matched⟩] } ∧
          t.path = { s.path with marks := s.path.marks ++ [⟨⟨b.index, .matched⟩, false⟩],
                                 corrections := s.path.corrections ++ [⟨(b.distance : Int) - reader, false⟩] } ∧
          (∀ f ∈ t.sv.faults, f.code = .positionConflict → f.subject = .none → f.active = false) ∧
          (2 ≤ s.pfu.miss → ∀ f ∈ t.sv.faults, f.code = .beaconMissed → f.subject = .none → f.active = false) ∧
          t.sv.conf = .placed ∧ KeepsOrders s t ∧ t.power = .on ∧ t.li = s.li ∧ t.aa = s.aa ∧ t.rw = s.rw ∧
          t.odo = s.odo ∧ t.ss = s.ss ∧ t.ac = s.ac ∧ t.ct = s.ct ∧ t.pending = s.pending) ∧
      ((∀ b, ¬candidate b) → repeated → exec (.beaconTelegram id true) s = .next s) ∧
      ((∀ b ∈ seen, b.id ≠ id) → exec (.beaconTelegram id true) s = .next s) ∧
      ((∀ b, ¬candidate b) → ¬repeated → (∃ b ∈ seen, b.id = id) →
        exec (.beaconTelegram id true) s = .next
          (raiseFault .positionConflict .none (reportRoute (s.setPfu { s.pfu with conf := .drifted })))))

/-! ### The window and the schedule -/

/-- A position sample at the Route Window. With a route open: records wholly behind the rearmost fitted wheelset by
the retention distance retire, the hand-over carries each fitted channel's wheelset position and look point with the
record that covers each, if one does, and the horizon notice is judged on the window after the retirement. With none
open the hand-over carries no positions and the notice is clear (R7, R9 to R13, R24). The model's choices in it: log
6. -/
def Obligations.SampleAtRouteWindow : Prop :=
  ∀ s : State, s.power = .on →
    (s.path.atRw = [] → exec .sampleAtRw s = .next s) ∧
    (∀ sample rest, s.path.atRw = sample :: rest → s.rw.isOpen = false →
      exec .sampleAtRw s = .next ((s.setPath { s.path with
          atRw := rest
          atSs := s.path.atSs ++ [⟨sample, Quad.build fun k => if fitted s k = true then .noRoute else .notFitted⟩] }).setRw
        { s.rw with horizonLow := false })) ∧
    (∀ sample rest, s.path.atRw = sample :: rest → s.rw.isOpen = true →
      let p (k : Chan) : Int := if s.rw.lead = .a then ((sample.r / 1000 : Nat) : Int) + (s.ct.table.chan.get k).offset
        else ((sample.r / 1000 : Nat) : Int) - (s.ct.table.chan.get k).offset
      let q (k : Chan) : Int := p k + (sample.d * s.ct.table.anticipation).tdiv 1000
      let ends (n : Nat) : Int := ((s.rw.rear + totalLength (s.rw.segs.take n) : Nat) : Int)
      let behind (n : Nat) : Prop :=
        (∃ k, fitted s k = true) ∧ ∀ k, fitted s k = true → ends n ≤ p k - s.ct.table.retention
      ∃ t n, exec .sampleAtRw s = .next t ∧
        n ≤ s.rw.segs.length ∧ (∀ j, 0 < j → j ≤ n → behind j) ∧ (n < s.rw.segs.length → ¬behind (n + 1)) ∧
        t.rw.segs = s.rw.segs.drop n ∧ t.rw.rear = s.rw.rear + totalLength (s.rw.segs.take n) ∧
        t.rw.front = s.rw.front ∧ t.rw.next = s.rw.next ∧ t.rw.lead = s.rw.lead ∧ t.rw.isOpen = true ∧
        (s.ct.table.horizonCond = .shortDistance → (t.rw.horizonLow = true ↔
          ∃ k, fitted s k = true ∧ (s.rw.front : Int) - q k < s.ct.table.horizonWarning)) ∧
        (s.ct.table.horizonCond = .freeSpace →
          (t.rw.horizonLow = true ↔ s.ct.table.freeThreshold ≤ 48 - t.rw.segs.length)) ∧
        (∃ entries, t.path = { s.path with atRw := rest, atSs := s.path.atSs ++ [⟨sample, entries⟩] } ∧
          ∀ k, (fitted s k = false → entries.get k = .notFitted) ∧
            (fitted s k = true → ∃ cp cq, entries.get k = .formed ⟨p k, q k, cp, cq⟩ ∧
              ∀ x c, (x = p k ∧ c = cp) ∨ (x = q k ∧ c = cq) →
                (∀ a len geo, c = some ⟨a, len, geo⟩ → (a : Int) ≤ x ∧ x < a + len ∧
                  ∃ j g, t.rw.segs[j]? = some g ∧ g.length = len ∧ g.geo = geo ∧
                    a = t.rw.rear + totalLength (t.rw.segs.take j)) ∧
                (c = none → x < t.rw.rear ∨ ((t.rw.rear + totalLength t.rw.segs : Nat) : Int) ≤ x))) ∧
        t.power = .on ∧ t.li = s.li ∧ t.aa = s.aa ∧ t.odo = s.odo ∧ t.pfu = s.pfu ∧ t.ss = s.ss ∧ t.ac = s.ac ∧
        t.sv = s.sv ∧ t.ct = s.ct ∧ t.pending = s.pending)

/-- A hand-over at the Steering Schedule gives each channel fitted now its curvature source by R33 to R36 (the window
at the look point, at the wheelset position short of the horizon, carried over, or decaying), and delivers the target
that the curvature, lever, gain, limit and slew step give (R30, R31, R41 to R45, R47, R50). Where the delivery brings
no homing, lock or centring timer of any channel to its limit, each channel's whole record follows its state: the
target by its rule, the timers and counts that its phase counts, the settle count's end in TRACKING or HOLDING, and
the move to lock engaged at the delivery that brings the target to 0 (R91, R97, R98, R105, R109, R112, R113, R115,
R116, R118, R132). The timers that reach their limit are ChannelThresholds'. CARRY_LIMIT_EXCEEDED standing alone makes
a CARRIED channel beyond the carry limit of the last sample DECAYING (R49). The model's choices in it: log 2, 6, 9,
13, 15, 17. -/
def Obligations.SampleAtScheduleChoosesAndDelivers : Prop :=
  ∀ s : State, s.power = .on →
    (s.path.atSs = [] → exec .sampleAtSs s = .next s) ∧
    (∀ h rest, s.path.atSs = h :: rest →
      ∃ t, exec .sampleAtSs s = .next t ∧ t.path = { s.path with atSs := rest } ∧
        t.power = .on ∧ t.li = s.li ∧ t.aa = s.aa ∧ t.rw = s.rw ∧ t.odo = s.odo ∧ t.pfu = s.pfu ∧
        t.ct = { s.ct with used := ⟨s.ct.table.lockTime, s.ct.table.carryLimit⟩ } ∧
        t.sv.hold = s.sv.hold ∧ t.pending = s.pending ∧
        ∀ k,
          let old := s.ss.get k
          let ch := s.ac.get k
          let cfg := s.ct.table.chan.get k
          let pts := (h.entries.get k).points
          let served := s.rw.isOpen = true ∧ s.pfu.conf = .placed
          let σ : Int := if decide (s.rw.lead = .a) = k.isASide then 1 else -1
          let gain := if h.sample.slip = true then min s.ct.gain s.ct.table.slideGain else s.ct.gain
          let target (κ : Int) (lim : Nat) : Int :=
            let ψ := roundHalfAway (σ * roundHalfAway (cfg.lever * κ) 100000 * gain) 100
            let ψc := max (-(lim : Int)) (min ψ lim)
            ch.theta + max (-(cfg.slew : Int)) (min (ψc - ch.theta) cfg.slew)
          let cap (c : Covering) (lim : Nat) : Nat :=
            match c.geo with
            | .junction _ cap => min lim cap
            | _ => lim
          let at_ (c : Covering) (x : Int) : Int :=
            match c.geo with
            | .straight => 0
            | .arc κ => κ
            | .junction κ _ => κ
            | .spiral κ κ' => κ + ((κ' - κ) * (x - c.start)).tdiv c.length
          let given (src : Source) (carried : Int) (n : Nat) (look : Option Int) (κ : Int) (lim : Nat) : Prop :=
            t.ss.get k = ⟨src, carried, n, look⟩ ∧ (t.ac.get k).sched = target κ lim
          (fitted s k = false → t.ss.get k = old ∧ (t.ac.get k).theta = ch.theta ∧ (t.ac.get k).sched = ch.sched) ∧
          (fitted s k = true →
            (∀ p q cp cq, served → pts = some ⟨p, q, some cp, some cq⟩ →
              given .fromWindow (at_ cq q) 0 (some q) (at_ cq q) (cap cp (cap cq cfg.angleLimit))) ∧
            (∀ p q cp, served → pts = some ⟨p, q, some cp, none⟩ →
              given .fromWindowShort (at_ cp p) 0 (some p) (at_ cp p) (cap cp cfg.angleLimit)) ∧
            ((¬served ∨ ∀ p q cp cq, pts ≠ some ⟨p, q, some cp, cq⟩) →
              let n := min (old.carry + 1) 65535
              let look := if s.rw.isOpen = true then pts.map (·.q) else none
              (old.source ≠ .decaying → n ≤ s.ct.table.carryLimit →
                given .carried old.carried n look old.carried cfg.angleLimit) ∧
              ((old.source = .decaying ∨ s.ct.table.carryLimit < n) →
                given .decaying old.carried n look 0 cfg.angleLimit)) ∧
            (t.ac.get k).conv = (if ch.conv = .none then .inFlight false else ch.conv) ∧
            (BogieInv s → (∀ j, fitted s j = true → ¬TimesOut s j) →
              let v := (t.ac.get k).sched
              let base : Channel := { ch with sched := v, conv := (t.ac.get k).conv }
              let plus (timer : Option Nat) : Option Nat := timer.map (· + 1)
              let stepped : Int := if ch.theta.natAbs ≤ cfg.slew then 0
                else if 0 < ch.theta then ch.theta - cfg.slew else ch.theta + cfg.slew
              let becomes (ch' : Channel) : Prop := t.ac.get k = ch'
              (ch.state = .unhomed ∨ ch.state = .homing .capturing → becomes { base with theta := 0 }) ∧
              (ch.state = .homing .assessing ∨ ch.state = .homing .seeking →
                becomes { base with theta := 0, homingT := plus ch.homingT }) ∧
              (ch.state = .homing .engaging ∨ ch.state = .locked ∨ ch.state = .releasing .awaiting →
                becomes { base with theta := 0, lockT := plus ch.lockT }) ∧
              (ch.state = .releasing .settling → ¬Reaches ch.settle s.ct.table.settleFrames →
                becomes { base with theta := 0, settle := plus ch.settle }) ∧
              (ch.state = .releasing .settling → Reaches ch.settle s.ct.table.settleFrames →
                becomes { base with
                  state := if s.sv.hold = .none then .tracking else .holding, theta := 0, persist := 0, homingT := none,
                  lockT := none, settle := none, centringT := none }) ∧
              (ch.state = .tracking → s.sv.hold = .none → becomes { base with theta := v, lockT := plus ch.lockT }) ∧
              (ch.state = .tracking → s.sv.hold = .immediate →
                becomes { base with state := .holding, lockT := plus ch.lockT }) ∧
              (ch.state = .tracking → s.sv.hold = .atCentre → becomes { base with
                state := if ch.theta.natAbs ≤ cfg.slew then .holding else .tracking, theta := stepped,
                lockT := plus ch.lockT }) ∧
              (ch.state = .holding → becomes { base with lockT := plus ch.lockT }) ∧
              (ch.state = .centring .stepping → becomes { base with
                theta := stepped, centringT := if stepped = 0 then plus ch.centringT else ch.centringT }) ∧
              (ch.state = .centring .engaging ∨ ch.state = .faulted .lockEngaged →
                becomes { base with theta := stepped, lockT := plus ch.lockT }) ∧
              (ch.state = .faulted .lockAwaited ∨ ch.state = .faulted .lockFailed →
                ch.contact = .engaged → stepped = 0 → becomes { base with
                  state := .faulted .lockEngaged, theta := 0, drive := .off, lockT := none }) ∧
              (ch.state = .faulted .lockAwaited → (ch.contact ≠ .engaged ∨ stepped ≠ 0) →
                becomes { base with theta := stepped, lockT := plus ch.lockT }) ∧
              (ch.state = .faulted .lockFailed → (ch.contact ≠ .engaged ∨ stepped ≠ 0) →
                becomes { base with theta := stepped })))) ∧
    (∀ k, fitted s k = true → (s.ss.get k).source = .carried → s.ct.used.carryLimit < (s.ss.get k).carry →
      ∃ t, exec (.carryLimitExceeded k) s = .next t ∧ t.ss.get k = { s.ss.get k with source := .decaying } ∧
        (∀ j, j ≠ k → t.ss.get j = s.ss.get j) ∧ (t.sv.view.get k).source = .decaying ∧ KeepsOrders s t ∧
        t.power = .on ∧ t.li = s.li ∧ t.aa = s.aa ∧ t.rw = s.rw ∧ t.odo = s.odo ∧ t.pfu = s.pfu ∧ t.ac = s.ac ∧
        t.ct = s.ct ∧ t.path = s.path ∧ t.pending = s.pending) ∧
    (∀ k, (fitted s k = false ∨ (s.ss.get k).source ≠ .carried ∨ (s.ss.get k).carry ≤ s.ct.used.carryLimit) →
      exec (.carryLimitExceeded k) s = .next s) ∧
    [Chan.c1, .c2, .c3, .c4].map Chan.isASide = [true, false, true, false]

/-! ### The channels' events -/

/-- The completion of an in-range conversion ends it, starts the fresh one requested, and forms m (R93, R94). In
TRACKING and HOLDING an error within the tolerance clears the persistence count and one beyond it counts; at the
persistence limit TRACKING_ERROR sends the channel to CENTRING with its fault mark, and no duty is loaded; otherwise
the loop's duty is loaded in every state where the loop runs (R96, R108). In CENTRING stepping, θ at 0 and m within
the lock window begin the engaging phase; a contact that reads ENGAGED already is taken at once, and the channel is
LOCKED, or with its fault mark FAULTED in phase lock engaged (R111, R113). The model's choices in it: log 2, 10,
15. -/
def Obligations.VerificationAndLoop : Prop :=
  ∀ (k : Chan) (raw : Nat) (s : State), s.power = .on →
    ((s.ac.get k).conv = .none → exec (.conversionCompletion k raw) s = .next s) ∧
    (∀ fresh, (s.ac.get k).conv = .inFlight fresh → 8 < raw → raw < 4087 →
      let ch := s.ac.get k
      let cfg := s.ct.table.chan.get k
      let m : Int := (((raw : Int) - ch.z) * cfg.scale).tdiv 64
      let duty : Int := max (-(cfg.dmax : Int)) (min (((ch.theta - m) * cfg.kp).tdiv 8) cfg.dmax)
      let next : Channel := { ch with m := m, conv := if fresh = true then .inFlight false else .none }
      let looped : Drive := match ch.drive with
        | .off => .energised 0 (some duty)
        | .energised applied _ => .energised applied (some duty)
      let becomes (ch' : Channel) : Prop := exec (.conversionCompletion k raw) s = .next (s.setAc (s.ac.set k ch'))
      let centred (c : Channel) : Channel := { c with
        state := .centring .stepping, mark := false, persist := 0, homingT := none, lockT := none, settle := none,
        centringT := some 0 }
      (ch.state = .tracking ∨ ch.state = .holding →
        ((ch.theta - m).natAbs ≤ cfg.tolerance → 1 ≤ cfg.persistLimit →
          becomes { next with persist := 0, drive := looped }) ∧
        (cfg.tolerance < (ch.theta - m).natAbs → ch.persist + 1 < cfg.persistLimit →
          becomes { next with persist := ch.persist + 1, drive := looped }) ∧
        (cfg.tolerance < (ch.theta - m).natAbs → cfg.persistLimit ≤ ch.persist + 1 →
          ∃ t, exec (.conversionCompletion k raw) s = .next t ∧ OnlyAcSv s t ∧ KeepsOrders s t ∧
            t.ac.get k = { centred next with mark := true } ∧
            (t.ac.get k.partner =
              if (s.ac.get k.partner).state.released = true then centred (s.ac.get k.partner)
              else s.ac.get k.partner) ∧
            (∀ j, j ≠ k → j ≠ k.partner → t.ac.get j = s.ac.get j) ∧ Raised .trackingError (.chan k) s t)) ∧
      (((∃ p, ch.state = .releasing p) ∨ ch.state = .centring .engaging ∨
          (ch.state = .faulted .lockFailed ∧ ch.untrusted = false) ∨
          (ch.state = .centring .stepping ∧ (ch.theta ≠ 0 ∨ s.ct.table.lockWindow < m.natAbs))) →
        becomes { next with drive := looped }) ∧
      (ch.state = .centring .stepping → ch.theta = 0 → m.natAbs ≤ s.ct.table.lockWindow → ch.contact ≠ .engaged →
        ∃ t, exec (.conversionCompletion k raw) s = .next t ∧ OnlyAcSv s t ∧ KeepsOrders s t ∧
          t.ac.get k = { next with state := .centring .engaging, solenoid := false, homingT := none, lockT := some 0,
                                   settle := none, centringT := none, drive := looped } ∧
          (BogieInv s → ∀ j, j ≠ k → t.ac.get j = s.ac.get j)) ∧
      (ch.state = .centring .stepping → ch.theta = 0 → m.natAbs ≤ s.ct.table.lockWindow → ch.contact = .engaged →
        ∃ t, exec (.conversionCompletion k raw) s = .next t ∧ OnlyAcSv s t ∧ KeepsOrders s t ∧
          t.ac.get k = { next with state := if ch.mark = true then .faulted .lockEngaged else .locked, mark := false,
                                   drive := .off, solenoid := false, homingT := none, lockT := none, settle := none,
                                   centringT := none } ∧
          (BogieInv s → ∀ j, j ≠ k → t.ac.get j = s.ac.get j)) ∧
      ((ch.state = .unhomed ∨ ch.state = .locked ∨ ch.state = .homing .seeking ∨ ch.state = .homing .engaging ∨
          ch.state = .faulted .lockAwaited ∨ ch.state = .faulted .lockEngaged ∨
          (ch.state = .faulted .lockFailed ∧ ch.untrusted = true)) → becomes next))

/-- Homing measures with a fresh conversion only. Assessing: lock and centre sensor agreeing capture the zero code and
the channel is LOCKED, disagreeing fault it with HOMING_DISAGREE, and a lock not engaged begins the seeking phase;
capturing: the zero code is captured and the channel is LOCKED (R93, R99 to R101). An out-of-range code takes the
drive and the solenoid off, marks the sensor untrusted and faults the channel with SENSOR_RANGE, in any fitted state
but UNHOMED (R94, R117). The model's choices in it: log 10, 15, 23, 25. -/
def Obligations.HomingMeasuresAndSensorRange : Prop :=
  ∀ (k : Chan) (raw : Nat) (fresh : Bool) (s : State), s.power = .on → (s.ac.get k).conv = .inFlight fresh →
    let ch := s.ac.get k
    let cfg := s.ct.table.chan.get k
    let m : Int := (((raw : Int) - ch.z) * cfg.scale).tdiv 64
    let next : Channel := { ch with m := m, conv := if fresh = true then .inFlight false else .none }
    let rest (t : State) : Prop := OnlyAcSv s t ∧ KeepsOrders s t ∧ ∀ j, j ≠ k → j ≠ k.partner → t.ac.get j = s.ac.get j
    let alone (ch' : Channel) : Prop := ∃ t, exec (.conversionCompletion k raw) s = .next t ∧ rest t ∧
      t.ac.get k = ch' ∧ t.ac.get k.partner = s.ac.get k.partner
    let faulted (c : FaultCode) (ch' : Channel) : Prop := ∃ t, exec (.conversionCompletion k raw) s = .next t ∧ rest t ∧
      t.ac.get k = ch' ∧ Raised c (.chan k) s t ∧
      t.ac.get k.partner =
        if (s.ac.get k.partner).state.released = true then
          { s.ac.get k.partner with state := .centring .stepping, mark := false, persist := 0, homingT := none,
                                    lockT := none, settle := none, centringT := some 0 }
        else s.ac.get k.partner
    let locked (c : Channel) : Channel := { c with
      z := raw, state := .locked, drive := .off, solenoid := false, homingT := none,
      lockT := if c.contact = .engaged then none else some 0, settle := none, centringT := none }
    (8 < raw → raw < 4087 →
      (ch.state = .homing .assessing →
        (fresh = true → exec (.conversionCompletion k raw) s = .next (s.setAc (s.ac.set k next))) ∧
        (fresh = false → ch.contact = .engaged → ch.centre = .centre → alone (locked next)) ∧
        (fresh = false → ch.contact = .engaged → ch.centre ≠ .centre → ch.theta = 0 →
          faulted .homingDisagree { next with
            state := .faulted .lockEngaged, drive := .off, solenoid := false, homingT := none, lockT := none,
            settle := none, centringT := none }) ∧
        (fresh = false → ch.contact ≠ .engaged → ch.drive = .off →
          (ch.centre = .left → alone { next with
            state := .homing .seeking, solenoid := true, drive := .energised 0 (some (-(cfg.homingDuty : Int))) }) ∧
          (ch.centre = .right → alone { next with
            state := .homing .seeking, solenoid := true, drive := .energised 0 (some (cfg.homingDuty : Int)) }) ∧
          (ch.centre = .centre → alone { next with
            state := .homing .engaging, solenoid := false, drive := .off, lockT := some 0 }))) ∧
      (ch.state = .homing .capturing →
        (fresh = true → exec (.conversionCompletion k raw) s = .next (s.setAc (s.ac.set k next))) ∧
        (fresh = false → alone (locked next)))) ∧
    (raw ≤ 8 ∨ 4087 ≤ raw →
      (ch.state = .unhomed → exec (.conversionCompletion k raw) s = .next (s.setAc (s.ac.set k next))) ∧
      (∀ p, ch.state = .faulted p → ∃ t, exec (.conversionCompletion k raw) s = .next t ∧ OnlyAcSv s t ∧
        KeepsOrders s t ∧ Raised .sensorRange (.chan k) s t ∧
        t.ac = s.ac.set k { next with drive := .off, solenoid := false, untrusted := true }) ∧
      (ch.state ≠ .unhomed → ch.state ≠ .absent → (∀ p, ch.state ≠ .faulted p) →
        faulted .sensorRange { next with
          state := if ch.contact = .engaged ∧ ch.theta = 0 then .faulted .lockEngaged else .faulted .lockAwaited,
          drive := .off, solenoid := false, untrusted := true, mark := false, homingT := none,
          lockT := if ch.contact = .engaged then none else some 0, settle := none, centringT := none }))

/-- A change of pins that leaves the decoded reading as it was is no event. A change of the lock contact is taken by
the state: the watch of LOCKED, of TRACKING and HOLDING and of FAULTED starts, runs on or stops; RELEASED is awaited
in RELEASING and ENGAGED in the phases that engage; and elsewhere the reading alone changes. The centre sensor steers
the seeking phase alone (R92, R100, R101, R105, R109, R113, R115, R116, R118, R211). The model's choices in it: log
15, 23. -/
def Obligations.SensorChangesAreTakenByState : Prop :=
  ∀ (k : Chan) (x y : Bool) (s : State), s.power = .on → BogieInv s →
    let ch := s.ac.get k
    let cfg := s.ct.table.chan.get k
    let contact : Contact := if x = y then .between else if x = true then .engaged else .released
    let reading : Centre := if x = y then .centre else if x = true then .left else .right
    let takes (c : Instr) (ch' : Channel) : Prop := ∃ t, exec c s = .next t ∧ OnlyAcSv s t ∧ KeepsOrders s t ∧
      t.ac = s.ac.set k ch'
    let lock := Instr.lockContactChange k x y
    let next : Channel := { ch with contact := contact }
    (contact = ch.contact → exec lock s = .next s) ∧
    (contact ≠ ch.contact →
      ((ch.state = .absent ∨ ch.state = .unhomed ∨ ch.state = .homing .assessing ∨ ch.state = .homing .capturing ∨
          ch.state = .centring .stepping) → takes lock next) ∧
      (ch.state = .locked ∨ ch.state = .faulted .lockEngaged → takes lock { next with
        lockT := if contact = .engaged then none else if ch.contact = .engaged then some 0 else ch.lockT }) ∧
      (ch.state = .tracking ∨ ch.state = .holding → takes lock { next with
        lockT := if contact = .released then none else if ch.contact = .released then some 0 else ch.lockT }) ∧
      (ch.state = .releasing .awaiting → contact = .released → s.ct.table.settleFrames ≠ 0 →
        takes lock { next with state := .releasing .settling, settle := some 0 }) ∧
      (ch.state = .releasing .awaiting → contact = .released → s.ct.table.settleFrames = 0 →
        takes lock { next with state := if s.sv.hold = .none then .tracking else .holding, theta := 0, persist := 0,
                               homingT := none, lockT := none, settle := none, centringT := none }) ∧
      (ch.state = .releasing .awaiting → contact ≠ .released → takes lock next) ∧
      (ch.state = .releasing .settling → takes lock { next with state := .releasing .awaiting, settle := none }) ∧
      ((ch.state = .homing .engaging ∨ (ch.state = .homing .seeking ∧ ch.centre = .centre)) →
        contact = .engaged → takes lock { next with
          state := .homing .capturing, drive := .off, solenoid := false, lockT := none,
          conv := if ch.conv = .none then .inFlight false else .inFlight true }) ∧
      (ch.state = .homing .seeking → ch.centre ≠ .centre → contact = .engaged → ch.theta = 0 →
        ∃ t, exec lock s = .next t ∧ OnlyAcSv s t ∧ KeepsOrders s t ∧ Raised .homingDisagree (.chan k) s t ∧
          t.ac.get k = { next with state := .faulted .lockEngaged, drive := .off, solenoid := false, homingT := none,
                                   lockT := none, settle := none, centringT := none } ∧
          (∀ j, j ≠ k → j ≠ k.partner → t.ac.get j = s.ac.get j) ∧
          t.ac.get k.partner =
            if (s.ac.get k.partner).state.released = true then
              { s.ac.get k.partner with state := .centring .stepping, mark := false, persist := 0, homingT := none,
                                        lockT := none, settle := none, centringT := some 0 }
            else s.ac.get k.partner) ∧
      ((ch.state = .homing .seeking ∨ ch.state = .homing .engaging) → contact ≠ .engaged → takes lock next) ∧
      (ch.state = .centring .engaging → contact ≠ .engaged → takes lock next) ∧
      (ch.state = .centring .engaging → contact = .engaged → takes lock { next with
        state := if ch.mark = true then .faulted .lockEngaged else .locked, mark := false, drive := .off,
        solenoid := false, homingT := none, lockT := none, settle := none, centringT := none }) ∧
      ((ch.state = .faulted .lockAwaited ∨ ch.state = .faulted .lockFailed) → contact = .engaged → ch.theta = 0 →
        takes lock { next with state := .faulted .lockEngaged, drive := .off, lockT := none }) ∧
      (ch.state = .faulted .lockAwaited → (contact ≠ .engaged ∨ ch.theta ≠ 0) → takes lock { next with
        lockT := if contact = .engaged then none else if ch.contact = .engaged then some 0 else ch.lockT }) ∧
      (ch.state = .faulted .lockFailed → (contact ≠ .engaged ∨ ch.theta ≠ 0) → takes lock next)) ∧
    (let sensor := Instr.centreSensorChange k x y
     (reading = ch.centre → exec sensor s = .next s) ∧
     (reading ≠ ch.centre →
      (ch.state ≠ .homing .seeking → takes sensor { ch with centre := reading }) ∧
      (∀ applied waiting, ch.state = .homing .seeking → ch.drive = .energised applied waiting →
        (reading = .left → takes sensor { ch with
          centre := .left, drive := .energised applied (some (-(cfg.homingDuty : Int))) }) ∧
        (reading = .right → takes sensor { ch with
          centre := .right, drive := .energised applied (some (cfg.homingDuty : Int)) }) ∧
        (reading = .centre → takes sensor { ch with
          centre := .centre, state := .homing .engaging, drive := .off, solenoid := false, lockT := some 0 }))))

/-- The thresholds of a channel's timers and counts, standing alone: where a timer or count stands at its limit in the
state that watches it, the channel takes the path of its rule, with the fault, the bogie partner's centring order, and
on LOCK_FAIL the isolation latch with a centring order to every channel; where it does not, nothing changes (R102,
R105, R106, R108, R109, R112, R118, R129, R138). And inside a sample's deliveries, to C1, C2, C3 and C4 in turn,
however many of them meet a limit: each applies its target rule, counts the timers of its phase, and where one of them
meets its limit takes the same path in that delivery, its centring orders reaching the other channels before their own
deliveries or after them (R91, R97, R98, R101, R105, R109, R112, R113, R115, R116, R118, R132). The model's choices in
it: log 2, 9, 10, 15, 17, 25. -/
def Obligations.ChannelThresholds : Prop :=
  ∀ (k : Chan) (s : State), s.power = .on →
    let ch := s.ac.get k
    let cfg := s.ct.table.chan.get k
    let limit (timer : Option Nat) (n : Nat) : Prop := ∃ v, timer = some v ∧ n ≤ v
    let idle (c : Channel) : Channel := { c with homingT := none, lockT := none, settle := none, centringT := none }
    let centred (c : Channel) : Channel := { idle c with
      state := .centring .stepping, mark := false, persist := 0, centringT := some 0 }
    let ordered (j : Chan) : Channel :=
      if (s.ac.get j).state.released = true then centred (s.ac.get j) else s.ac.get j
    let toFaulted : Channel := { idle ch with
      state := if ch.contact = .engaged ∧ ch.theta = 0 then .faulted .lockEngaged else .faulted .lockAwaited,
      drive := .off, solenoid := false, lockT := if ch.contact = .engaged then none else some 0 }
    let path (c : Instr) (ch' : Channel) (t : State) : Prop := exec c s = .next t ∧ OnlyAcSv s t ∧
      t.sv.hold = s.sv.hold ∧ t.ac.get k = ch' ∧ t.ac.get k.partner = ordered k.partner
    let others (t : State) : Prop := t.sv.latch = s.sv.latch ∧ ∀ j, j ≠ k → j ≠ k.partner → t.ac.get j = s.ac.get j
    (ch.state = .tracking ∨ ch.state = .holding → cfg.persistLimit ≤ ch.persist →
      ∃ t, path (.trackingError k) { centred ch with mark := true } t ∧ others t ∧
        Raised .trackingError (.chan k) s t) ∧
    ((ch.state ≠ .tracking ∧ ch.state ≠ .holding ∨ ch.persist < cfg.persistLimit) →
      exec (.trackingError k) s = .next s) ∧
    (ch.state = .homing .assessing ∨ ch.state = .homing .seeking → limit ch.homingT s.ct.table.homingLimit →
      ∃ t, path (.homingTimeout k) toFaulted t ∧ others t ∧ Raised .homingTimeout (.chan k) s t) ∧
    ((ch.state ≠ .homing .assessing ∧ ch.state ≠ .homing .seeking ∨ ¬limit ch.homingT s.ct.table.homingLimit) →
      exec (.homingTimeout k) s = .next s) ∧
    (ch.state = .releasing .awaiting ∨ ch.state = .tracking ∨ ch.state = .holding →
      limit ch.lockT s.ct.used.lockTime →
      ∃ t, path (.lockStuck k) toFaulted t ∧ others t ∧ Raised .lockStuck (.chan k) s t) ∧
    ((ch.state ≠ .releasing .awaiting ∧ ch.state ≠ .tracking ∧ ch.state ≠ .holding ∨
        ¬limit ch.lockT s.ct.used.lockTime) → exec (.lockStuck k) s = .next s) ∧
    (ch.state = .homing .engaging ∨ ch.state = .centring .engaging ∨ ch.state = .locked ∨
        ch.state = .faulted .lockAwaited ∨ ch.state = .faulted .lockEngaged → limit ch.lockT s.ct.used.lockTime →
      ∃ t, path (.lockFail k) { idle ch with state := .faulted .lockFailed, solenoid := false } t ∧
        t.sv.latch = true ∧ (∀ j, j ≠ k → t.ac.get j = ordered j) ∧ Raised .lockFail (.chan k) s t) ∧
    ((ch.state ≠ .homing .engaging ∧ ch.state ≠ .centring .engaging ∧ ch.state ≠ .locked ∧
        ch.state ≠ .faulted .lockAwaited ∧ ch.state ≠ .faulted .lockEngaged ∨
        ¬limit ch.lockT s.ct.used.lockTime) → exec (.lockFail k) s = .next s) ∧
    (ch.state = .releasing .settling → limit ch.settle s.ct.table.settleFrames →
      ∃ t, exec (.settleFramesReached k) s = .next t ∧ OnlyAcSv s t ∧ KeepsOrders s t ∧
        t.ac = s.ac.set k { idle ch with
          state := if s.sv.hold = .none then .tracking else .holding, theta := 0, persist := 0 }) ∧
    ((ch.state ≠ .releasing .settling ∨ ¬limit ch.settle s.ct.table.settleFrames) →
      exec (.settleFramesReached k) s = .next s) ∧
    (ch.state = .centring .stepping → limit ch.centringT s.ct.table.homingLimit →
      ∃ t, path (.centringTimerExpiry k)
        (if ch.contact = .engaged then
          { idle ch with state := .faulted .lockEngaged, mark := false, drive := .off, solenoid := false }
        else { idle ch with state := .centring .engaging, mark := true, solenoid := false, lockT := some 0 }) t ∧
        others t ∧ (ch.mark = false → Raised .trackingError (.chan k) s t)) ∧
    ((ch.state ≠ .centring .stepping ∨ ¬limit ch.centringT s.ct.table.homingLimit) →
      exec (.centringTimerExpiry k) s = .next s) ∧
    (∀ (h : HandOver) (rest : List HandOver), s.path.atSs = h :: rest → BogieInv s → 5 ≤ s.ct.table.lockTime →
      ∃ t, exec .sampleAtSs s = .next t ∧
        ∀ q1 q2 q3 q4 : Quad Channel,
          q1 = afterDelivery s .c1 (t.ac.get .c1).sched s.ac → q2 = afterDelivery s .c2 (t.ac.get .c2).sched q1 →
          q3 = afterDelivery s .c3 (t.ac.get .c3).sched q2 → q4 = afterDelivery s .c4 (t.ac.get .c4).sched q3 →
          t.ac = q4 ∧
            (let raised (j : Chan) (q : Quad Channel) : List FaultCode :=
               if fitted s j = true then (delivered s j (t.ac.get j).sched (q.get j)).faults else []
             t.sv.latch = (s.sv.latch || raised .c1 s.ac == [.lockFail] || raised .c2 q1 == [.lockFail] ||
               raised .c3 q2 == [.lockFail] || raised .c4 q3 == [.lockFail]) ∧
             (s.sv.faults.length +
                 (raised .c1 s.ac ++ raised .c2 q1 ++ raised .c3 q2 ++ raised .c4 q3).length ≤ 15 →
               (∀ f ∈ raised .c1 s.ac, Recorded f .c1 s t) ∧ (∀ f ∈ raised .c2 q1, Recorded f .c2 s t) ∧
               (∀ f ∈ raised .c3 q2, Recorded f .c3 s t) ∧ ∀ f ∈ raised .c4 q3, Recorded f .c4 s t))) ∧
    [Chan.c1, .c2, .c3, .c4].map Chan.partner = [.c2, .c1, .c4, .c3]

/-! ### Invariants that every step keeps -/

/-- Every step keeps the window contiguous, valid, indexed and within its capacity, and the confidence UNPLACED exactly
while no route is open (R6 to R8, R20, R24, R26, R72). -/
def Obligations.EveryStepKeepsTheWindow : Prop :=
  ∀ s t : State, Inv s → step s = .next t → WindowInv t

/-- Every step keeps the fault list's form and the authority's (R143, R144, R163, R198, R200). -/
def Obligations.EveryStepKeepsFaultListAndAuthority : Prop :=
  ∀ s t : State, Inv s → step s = .next t → FaultInv t ∧ AuthorityInv t

/-- Every step keeps the bogie pairing, and no step but a power-on reset clears the isolation latch: no channel is in a
released state while the latch stands or while its partner is faulted (R130, R138, R139). -/
def Obligations.EveryStepKeepsPairingAndLatch : Prop :=
  ∀ s t : State, Inv s → step s = .next t →
    BogieInv t ∧ (s.sv.latch = true → (∀ a p rest, s.pending ≠ .powerOnReset a p :: rest) → t.sv.latch = true)

/-- Every step keeps the targets within their limits and at 0 in the states that have them so; a target moves at a target
delivery alone, by at most the channel's slew step, and a power-on reset sets it to 0 (R91, R97, R123, R125). -/
def Obligations.TargetsMoveOnlyAtDeliveriesBySlewSteps : Prop :=
  ∀ s t : State, Inv s → step s = .next t →
    TargetInv t ∧
    ((∀ a p rest, s.pending ≠ .powerOnReset a p :: rest) → ∀ k,
      ((t.ac.get k).theta - (s.ac.get k).theta).natAbs ≤ (s.ct.table.chan.get k).slew) ∧
    ((∀ a p rest, s.pending ≠ .powerOnReset a p :: rest) → (∀ rest, s.pending ≠ .sampleAtSs :: rest) → ∀ k,
      (t.ac.get k).theta = (s.ac.get k).theta) ∧
    ((∃ a p rest, s.pending = .powerOnReset a p :: rest) → ∀ k, (t.ac.get k).theta = 0)

/-- Every step keeps every parameter, counter and channel item in its range and the receive queue within its depth,
with no frame waiting while none is in service; the receiver is stopped exactly in SLEEP and during the own reply, a
frame on the line holds it BUSY; it becomes FREE only after 16 bit times of ones, outside a frame; and a completion
with a raw code of 12 bits keeps the measured angles in theirs (R28, R35, R52, R64, R71, R78, R90, R167, R170, R171,
R180 to R182). The model's choices in it: log 2, 3, 14, 28. -/
def Obligations.EveryStepKeepsRangesAndTheQueue : Prop :=
  ∀ s t : State, Inv s → step s = .next t → ConfigInv t ∧ RangeInv t ∧ LineInv t ∧
    (s.li.line = .busy → t.li.line = .free → 16 ≤ s.li.ones ∧ s.li.inFrame = false ∧ t.li.receiver = .hunting) ∧
    ((∀ k raw rest, s.pending = .conversionCompletion k raw :: rest → raw ≤ 4095) →
      (∀ k, (s.ac.get k).m.natAbs ≤ 16320) → ∀ k, (t.ac.get k).m.natAbs ≤ 16320)

/-- Every step keeps the Supervisor's view equal to what stands, and its steering mode, speed restriction level and horizon
shortfall condition equal to what R136, R137 and R140 give for the fitted channels' states and sources, the latch, the
route-open flag and the confidence as they stand, row by row; and a step in which that condition comes to be met
raises HORIZON_SHORTFALL, with room in the list an active record stamped with the frame number and the route distance of the
report (at the end of a service, which may serve several frames that move it, with a route distance), and one in which it
ceases to be met leaves the record inactive (R91, R126, R127, R140, R142, R197). -/
def Obligations.EveryStepKeepsTheSupervisorsView : Prop :=
  ∀ s t : State, Inv s → step s = .next t → ViewInv t ∧
    (let fit (k : Chan) : Bool :=
       (t.ct.table.chan.get k).enable && (t.ct.table.fitting == .twoBogies || k == .c1 || k == .c2)
     let steers (k : Chan) : Bool := (t.ac.get k).state == .tracking || (t.ac.get k).state == .holding
     let short (k : Chan) : Bool :=
       (t.ss.get k).source == .fromWindowShort || (t.ss.get k).source == .carried || (t.ss.get k).source == .decaying
     let lockOpen (k : Chan) : Bool :=
       (t.ac.get k).state == .faulted .lockAwaited || (t.ac.get k).state == .faulted .lockFailed
     let someFit (p : Chan → Bool) : Bool := fit .c1 && p .c1 || fit .c2 && p .c2 || fit .c3 && p .c3 || fit .c4 && p .c4
     let bogieSteers (i j : Chan) : Bool := (fit i || fit j) && (!fit i || steers i) && (!fit j || steers j)
     t.sv.steering =
         (if bogieSteers .c1 .c2 = false ∧ bogieSteers .c3 .c4 = false then .unsteered
          else if (fit .c1 || fit .c2) = bogieSteers .c1 .c2 ∧ (fit .c3 || fit .c4) = bogieSteers .c3 .c4 then .steering
          else .partially) ∧
       t.sv.level =
         (if t.sv.latch = true then .severe
          else if someFit lockOpen = true then .severe
          else if someFit (fun _ => true) = false then .reduced
          else if someFit (fun k => !steers k) = true then .reduced
          else if someFit short = true then .reduced
          else .none) ∧
       t.sv.shortfall = (t.rw.isOpen && t.pfu.conf == .placed && someFit fun k => steers k && short k)) ∧
    (s.sv.shortfall = false → t.sv.shortfall = true → s.sv.faults.length < 16 → t.sv.faults.length < 16 →
      ∃ f ∈ t.sv.faults, f.code = .horizonShortfall ∧ f.subject = .none ∧ f.active = true ∧ f.frame = t.odo.frameNo ∧
        f.distance.isSome = true ∧
        ((∀ rest, s.pending ≠ .endOfService :: rest ∧ s.pending ≠ .replyDrop :: rest) →
          f.distance = some (t.odo.r / 1000))) ∧
    (s.sv.shortfall = true → t.sv.shortfall = false →
      ∀ f ∈ t.sv.faults, f.code = .horizonShortfall → f.active = false)

/-- The state after reset meets every invariant. The model's choices in it: log 11. -/
def Obligations.ResetMeetsTheInvariants : Prop := Inv State.reset
end

