-- ==== Sys2Proof/Laws/Groups.lean ====
section
/-! SUPPORT. The laws of the groups of four and of two: a read after a write, and a write that leaves the others alone. -/

namespace Sys2Proof

@[simp] theorem Quad.get_set_self {α : Type} (q : Quad α) (k : Chan) (v : α) : (q.set k v).get k = v := by
  cases k <;> rfl

theorem Quad.get_set_ne {α : Type} (q : Quad α) {j k : Chan} (v : α) (h : j ≠ k) : (q.set k v).get j = q.get j := by
  cases j <;> cases k <;> first | rfl | exact absurd rfl h

@[simp] theorem Quad.get_build {α : Type} (f : Chan → α) (k : Chan) : (Quad.build f).get k = f k := by cases k <;> rfl

theorem Quad.ext_get {α : Type} {q q' : Quad α} (h : ∀ k, q.get k = q'.get k) : q = q' := by
  cases q; cases q'
  have h1 := h .c1; have h2 := h .c2; have h3 := h .c3; have h4 := h .c4
  simp only [Quad.get] at h1 h2 h3 h4
  subst h1; subst h2; subst h3; subst h4; rfl

@[simp] theorem Quad.set_get_self {α : Type} (q : Quad α) (k : Chan) : q.set k (q.get k) = q := by cases k <;> rfl

@[simp] theorem Duo.get_set_self {α : Type} (q : Duo α) (t : Tacho) (v : α) : (q.set t v).get t = v := by
  cases t <;> rfl

theorem Duo.get_set_ne {α : Type} (q : Duo α) {j t : Tacho} (v : α) (h : j ≠ t) : (q.set t v).get j = q.get j := by
  cases j <;> cases t <;> first | rfl | exact absurd rfl h

@[simp] theorem Chan.partner_ne (k : Chan) : k.partner ≠ k := by cases k <;> decide

@[simp] theorem Chan.ne_partner (k : Chan) : k ≠ k.partner := by cases k <;> decide

@[simp] theorem Chan.partner_partner (k : Chan) : k.partner.partner = k := by cases k <;> rfl

theorem Chan.mem_all (k : Chan) : k ∈ Chan.all := by cases k <;> decide

end Sys2Proof
end

