-- ==== Sys2Proof/Laws/State.lean ====
section
/-! SUPPORT. One lemma per field per update of State: reading a block after a block has been replaced. -/

namespace Sys2Proof.Machine

@[simp] theorem State.setPower_power (s : State) (v) : (s.setPower v).power = v := rfl
@[simp] theorem State.setPower_li (s : State) (v) : (s.setPower v).li = s.li := rfl
@[simp] theorem State.setPower_aa (s : State) (v) : (s.setPower v).aa = s.aa := rfl
@[simp] theorem State.setPower_rw (s : State) (v) : (s.setPower v).rw = s.rw := rfl
@[simp] theorem State.setPower_odo (s : State) (v) : (s.setPower v).odo = s.odo := rfl
@[simp] theorem State.setPower_pfu (s : State) (v) : (s.setPower v).pfu = s.pfu := rfl
@[simp] theorem State.setPower_ss (s : State) (v) : (s.setPower v).ss = s.ss := rfl
@[simp] theorem State.setPower_ac (s : State) (v) : (s.setPower v).ac = s.ac := rfl
@[simp] theorem State.setPower_sv (s : State) (v) : (s.setPower v).sv = s.sv := rfl
@[simp] theorem State.setPower_ct (s : State) (v) : (s.setPower v).ct = s.ct := rfl
@[simp] theorem State.setPower_path (s : State) (v) : (s.setPower v).path = s.path := rfl
@[simp] theorem State.setPower_pending (s : State) (v) : (s.setPower v).pending = s.pending := rfl

@[simp] theorem State.setLi_power (s : State) (v) : (s.setLi v).power = s.power := rfl
@[simp] theorem State.setLi_li (s : State) (v) : (s.setLi v).li = v := rfl
@[simp] theorem State.setLi_aa (s : State) (v) : (s.setLi v).aa = s.aa := rfl
@[simp] theorem State.setLi_rw (s : State) (v) : (s.setLi v).rw = s.rw := rfl
@[simp] theorem State.setLi_odo (s : State) (v) : (s.setLi v).odo = s.odo := rfl
@[simp] theorem State.setLi_pfu (s : State) (v) : (s.setLi v).pfu = s.pfu := rfl
@[simp] theorem State.setLi_ss (s : State) (v) : (s.setLi v).ss = s.ss := rfl
@[simp] theorem State.setLi_ac (s : State) (v) : (s.setLi v).ac = s.ac := rfl
@[simp] theorem State.setLi_sv (s : State) (v) : (s.setLi v).sv = s.sv := rfl
@[simp] theorem State.setLi_ct (s : State) (v) : (s.setLi v).ct = s.ct := rfl
@[simp] theorem State.setLi_path (s : State) (v) : (s.setLi v).path = s.path := rfl
@[simp] theorem State.setLi_pending (s : State) (v) : (s.setLi v).pending = s.pending := rfl

@[simp] theorem State.setAa_power (s : State) (v) : (s.setAa v).power = s.power := rfl
@[simp] theorem State.setAa_li (s : State) (v) : (s.setAa v).li = s.li := rfl
@[simp] theorem State.setAa_aa (s : State) (v) : (s.setAa v).aa = v := rfl
@[simp] theorem State.setAa_rw (s : State) (v) : (s.setAa v).rw = s.rw := rfl
@[simp] theorem State.setAa_odo (s : State) (v) : (s.setAa v).odo = s.odo := rfl
@[simp] theorem State.setAa_pfu (s : State) (v) : (s.setAa v).pfu = s.pfu := rfl
@[simp] theorem State.setAa_ss (s : State) (v) : (s.setAa v).ss = s.ss := rfl
@[simp] theorem State.setAa_ac (s : State) (v) : (s.setAa v).ac = s.ac := rfl
@[simp] theorem State.setAa_sv (s : State) (v) : (s.setAa v).sv = s.sv := rfl
@[simp] theorem State.setAa_ct (s : State) (v) : (s.setAa v).ct = s.ct := rfl
@[simp] theorem State.setAa_path (s : State) (v) : (s.setAa v).path = s.path := rfl
@[simp] theorem State.setAa_pending (s : State) (v) : (s.setAa v).pending = s.pending := rfl

@[simp] theorem State.setRw_power (s : State) (v) : (s.setRw v).power = s.power := rfl
@[simp] theorem State.setRw_li (s : State) (v) : (s.setRw v).li = s.li := rfl
@[simp] theorem State.setRw_aa (s : State) (v) : (s.setRw v).aa = s.aa := rfl
@[simp] theorem State.setRw_rw (s : State) (v) : (s.setRw v).rw = v := rfl
@[simp] theorem State.setRw_odo (s : State) (v) : (s.setRw v).odo = s.odo := rfl
@[simp] theorem State.setRw_pfu (s : State) (v) : (s.setRw v).pfu = s.pfu := rfl
@[simp] theorem State.setRw_ss (s : State) (v) : (s.setRw v).ss = s.ss := rfl
@[simp] theorem State.setRw_ac (s : State) (v) : (s.setRw v).ac = s.ac := rfl
@[simp] theorem State.setRw_sv (s : State) (v) : (s.setRw v).sv = s.sv := rfl
@[simp] theorem State.setRw_ct (s : State) (v) : (s.setRw v).ct = s.ct := rfl
@[simp] theorem State.setRw_path (s : State) (v) : (s.setRw v).path = s.path := rfl
@[simp] theorem State.setRw_pending (s : State) (v) : (s.setRw v).pending = s.pending := rfl

@[simp] theorem State.setOdo_power (s : State) (v) : (s.setOdo v).power = s.power := rfl
@[simp] theorem State.setOdo_li (s : State) (v) : (s.setOdo v).li = s.li := rfl
@[simp] theorem State.setOdo_aa (s : State) (v) : (s.setOdo v).aa = s.aa := rfl
@[simp] theorem State.setOdo_rw (s : State) (v) : (s.setOdo v).rw = s.rw := rfl
@[simp] theorem State.setOdo_odo (s : State) (v) : (s.setOdo v).odo = v := rfl
@[simp] theorem State.setOdo_pfu (s : State) (v) : (s.setOdo v).pfu = s.pfu := rfl
@[simp] theorem State.setOdo_ss (s : State) (v) : (s.setOdo v).ss = s.ss := rfl
@[simp] theorem State.setOdo_ac (s : State) (v) : (s.setOdo v).ac = s.ac := rfl
@[simp] theorem State.setOdo_sv (s : State) (v) : (s.setOdo v).sv = s.sv := rfl
@[simp] theorem State.setOdo_ct (s : State) (v) : (s.setOdo v).ct = s.ct := rfl
@[simp] theorem State.setOdo_path (s : State) (v) : (s.setOdo v).path = s.path := rfl
@[simp] theorem State.setOdo_pending (s : State) (v) : (s.setOdo v).pending = s.pending := rfl

@[simp] theorem State.setPfu_power (s : State) (v) : (s.setPfu v).power = s.power := rfl
@[simp] theorem State.setPfu_li (s : State) (v) : (s.setPfu v).li = s.li := rfl
@[simp] theorem State.setPfu_aa (s : State) (v) : (s.setPfu v).aa = s.aa := rfl
@[simp] theorem State.setPfu_rw (s : State) (v) : (s.setPfu v).rw = s.rw := rfl
@[simp] theorem State.setPfu_odo (s : State) (v) : (s.setPfu v).odo = s.odo := rfl
@[simp] theorem State.setPfu_pfu (s : State) (v) : (s.setPfu v).pfu = v := rfl
@[simp] theorem State.setPfu_ss (s : State) (v) : (s.setPfu v).ss = s.ss := rfl
@[simp] theorem State.setPfu_ac (s : State) (v) : (s.setPfu v).ac = s.ac := rfl
@[simp] theorem State.setPfu_sv (s : State) (v) : (s.setPfu v).sv = s.sv := rfl
@[simp] theorem State.setPfu_ct (s : State) (v) : (s.setPfu v).ct = s.ct := rfl
@[simp] theorem State.setPfu_path (s : State) (v) : (s.setPfu v).path = s.path := rfl
@[simp] theorem State.setPfu_pending (s : State) (v) : (s.setPfu v).pending = s.pending := rfl

@[simp] theorem State.setSs_power (s : State) (v) : (s.setSs v).power = s.power := rfl
@[simp] theorem State.setSs_li (s : State) (v) : (s.setSs v).li = s.li := rfl
@[simp] theorem State.setSs_aa (s : State) (v) : (s.setSs v).aa = s.aa := rfl
@[simp] theorem State.setSs_rw (s : State) (v) : (s.setSs v).rw = s.rw := rfl
@[simp] theorem State.setSs_odo (s : State) (v) : (s.setSs v).odo = s.odo := rfl
@[simp] theorem State.setSs_pfu (s : State) (v) : (s.setSs v).pfu = s.pfu := rfl
@[simp] theorem State.setSs_ss (s : State) (v) : (s.setSs v).ss = v := rfl
@[simp] theorem State.setSs_ac (s : State) (v) : (s.setSs v).ac = s.ac := rfl
@[simp] theorem State.setSs_sv (s : State) (v) : (s.setSs v).sv = s.sv := rfl
@[simp] theorem State.setSs_ct (s : State) (v) : (s.setSs v).ct = s.ct := rfl
@[simp] theorem State.setSs_path (s : State) (v) : (s.setSs v).path = s.path := rfl
@[simp] theorem State.setSs_pending (s : State) (v) : (s.setSs v).pending = s.pending := rfl

@[simp] theorem State.setAc_power (s : State) (v) : (s.setAc v).power = s.power := rfl
@[simp] theorem State.setAc_li (s : State) (v) : (s.setAc v).li = s.li := rfl
@[simp] theorem State.setAc_aa (s : State) (v) : (s.setAc v).aa = s.aa := rfl
@[simp] theorem State.setAc_rw (s : State) (v) : (s.setAc v).rw = s.rw := rfl
@[simp] theorem State.setAc_odo (s : State) (v) : (s.setAc v).odo = s.odo := rfl
@[simp] theorem State.setAc_pfu (s : State) (v) : (s.setAc v).pfu = s.pfu := rfl
@[simp] theorem State.setAc_ss (s : State) (v) : (s.setAc v).ss = s.ss := rfl
@[simp] theorem State.setAc_ac (s : State) (v) : (s.setAc v).ac = v := rfl
@[simp] theorem State.setAc_sv (s : State) (v) : (s.setAc v).sv = s.sv := rfl
@[simp] theorem State.setAc_ct (s : State) (v) : (s.setAc v).ct = s.ct := rfl
@[simp] theorem State.setAc_path (s : State) (v) : (s.setAc v).path = s.path := rfl
@[simp] theorem State.setAc_pending (s : State) (v) : (s.setAc v).pending = s.pending := rfl

@[simp] theorem State.setSv_power (s : State) (v) : (s.setSv v).power = s.power := rfl
@[simp] theorem State.setSv_li (s : State) (v) : (s.setSv v).li = s.li := rfl
@[simp] theorem State.setSv_aa (s : State) (v) : (s.setSv v).aa = s.aa := rfl
@[simp] theorem State.setSv_rw (s : State) (v) : (s.setSv v).rw = s.rw := rfl
@[simp] theorem State.setSv_odo (s : State) (v) : (s.setSv v).odo = s.odo := rfl
@[simp] theorem State.setSv_pfu (s : State) (v) : (s.setSv v).pfu = s.pfu := rfl
@[simp] theorem State.setSv_ss (s : State) (v) : (s.setSv v).ss = s.ss := rfl
@[simp] theorem State.setSv_ac (s : State) (v) : (s.setSv v).ac = s.ac := rfl
@[simp] theorem State.setSv_sv (s : State) (v) : (s.setSv v).sv = v := rfl
@[simp] theorem State.setSv_ct (s : State) (v) : (s.setSv v).ct = s.ct := rfl
@[simp] theorem State.setSv_path (s : State) (v) : (s.setSv v).path = s.path := rfl
@[simp] theorem State.setSv_pending (s : State) (v) : (s.setSv v).pending = s.pending := rfl

@[simp] theorem State.setCt_power (s : State) (v) : (s.setCt v).power = s.power := rfl
@[simp] theorem State.setCt_li (s : State) (v) : (s.setCt v).li = s.li := rfl
@[simp] theorem State.setCt_aa (s : State) (v) : (s.setCt v).aa = s.aa := rfl
@[simp] theorem State.setCt_rw (s : State) (v) : (s.setCt v).rw = s.rw := rfl
@[simp] theorem State.setCt_odo (s : State) (v) : (s.setCt v).odo = s.odo := rfl
@[simp] theorem State.setCt_pfu (s : State) (v) : (s.setCt v).pfu = s.pfu := rfl
@[simp] theorem State.setCt_ss (s : State) (v) : (s.setCt v).ss = s.ss := rfl
@[simp] theorem State.setCt_ac (s : State) (v) : (s.setCt v).ac = s.ac := rfl
@[simp] theorem State.setCt_sv (s : State) (v) : (s.setCt v).sv = s.sv := rfl
@[simp] theorem State.setCt_ct (s : State) (v) : (s.setCt v).ct = v := rfl
@[simp] theorem State.setCt_path (s : State) (v) : (s.setCt v).path = s.path := rfl
@[simp] theorem State.setCt_pending (s : State) (v) : (s.setCt v).pending = s.pending := rfl

@[simp] theorem State.setPath_power (s : State) (v) : (s.setPath v).power = s.power := rfl
@[simp] theorem State.setPath_li (s : State) (v) : (s.setPath v).li = s.li := rfl
@[simp] theorem State.setPath_aa (s : State) (v) : (s.setPath v).aa = s.aa := rfl
@[simp] theorem State.setPath_rw (s : State) (v) : (s.setPath v).rw = s.rw := rfl
@[simp] theorem State.setPath_odo (s : State) (v) : (s.setPath v).odo = s.odo := rfl
@[simp] theorem State.setPath_pfu (s : State) (v) : (s.setPath v).pfu = s.pfu := rfl
@[simp] theorem State.setPath_ss (s : State) (v) : (s.setPath v).ss = s.ss := rfl
@[simp] theorem State.setPath_ac (s : State) (v) : (s.setPath v).ac = s.ac := rfl
@[simp] theorem State.setPath_sv (s : State) (v) : (s.setPath v).sv = s.sv := rfl
@[simp] theorem State.setPath_ct (s : State) (v) : (s.setPath v).ct = s.ct := rfl
@[simp] theorem State.setPath_path (s : State) (v) : (s.setPath v).path = v := rfl
@[simp] theorem State.setPath_pending (s : State) (v) : (s.setPath v).pending = s.pending := rfl

@[simp] theorem State.setPending_power (s : State) (v) : (s.setPending v).power = s.power := rfl
@[simp] theorem State.setPending_li (s : State) (v) : (s.setPending v).li = s.li := rfl
@[simp] theorem State.setPending_aa (s : State) (v) : (s.setPending v).aa = s.aa := rfl
@[simp] theorem State.setPending_rw (s : State) (v) : (s.setPending v).rw = s.rw := rfl
@[simp] theorem State.setPending_odo (s : State) (v) : (s.setPending v).odo = s.odo := rfl
@[simp] theorem State.setPending_pfu (s : State) (v) : (s.setPending v).pfu = s.pfu := rfl
@[simp] theorem State.setPending_ss (s : State) (v) : (s.setPending v).ss = s.ss := rfl
@[simp] theorem State.setPending_ac (s : State) (v) : (s.setPending v).ac = s.ac := rfl
@[simp] theorem State.setPending_sv (s : State) (v) : (s.setPending v).sv = s.sv := rfl
@[simp] theorem State.setPending_ct (s : State) (v) : (s.setPending v).ct = s.ct := rfl
@[simp] theorem State.setPending_path (s : State) (v) : (s.setPending v).path = s.path := rfl
@[simp] theorem State.setPending_pending (s : State) (v) : (s.setPending v).pending = v := rfl

end Sys2Proof.Machine
end

