-- ==== Sys2Proof/Laws/Frames.lean ====
section
/-! SUPPORT. Which blocks each shared operation touches, said once for each; how records end; how a sample takes the limits;
and when a speed reference is fresh. -/

namespace Sys2Proof.Machine

/-! ### The two relations -/

theorem OnlySv.refl (s : State) : OnlySv s s := by simp [OnlySv]

theorem OnlySv.trans {s t u : State} (h : OnlySv s t) (h' : OnlySv t u) : OnlySv s u := by
  unfold OnlySv at *; obtain ⟨_, _, _, _, _, _, _, _, _, _, _⟩ := h; obtain ⟨_, _, _, _, _, _, _, _, _, _, _⟩ := h'
  refine ⟨?_, ?_, ?_, ?_, ?_, ?_, ?_, ?_, ?_, ?_, ?_⟩ <;> simp_all

theorem OnlySv.setSv (s : State) (v : Sv) : OnlySv s (s.setSv v) := by simp [OnlySv]

theorem OnlyAcSv.refl (s : State) : OnlyAcSv s s := by simp [OnlyAcSv]

theorem OnlyAcSv.trans {s t u : State} (h : OnlyAcSv s t) (h' : OnlyAcSv t u) : OnlyAcSv s u := by
  unfold OnlyAcSv at *; obtain ⟨_, _, _, _, _, _, _, _, _, _⟩ := h; obtain ⟨_, _, _, _, _, _, _, _, _, _⟩ := h'
  refine ⟨?_, ?_, ?_, ?_, ?_, ?_, ?_, ?_, ?_, ?_⟩ <;> simp_all

theorem OnlySv.toAcSv {s t : State} (h : OnlySv s t) : OnlyAcSv s t := by
  unfold OnlySv at h; unfold OnlyAcSv; obtain ⟨_, _, _, _, _, _, _, _, _, _, _⟩ := h
  exact ⟨‹_›, ‹_›, ‹_›, ‹_›, ‹_›, ‹_›, ‹_›, ‹_›, ‹_›, ‹_›⟩

theorem KeepsOrders.refl (s : State) : KeepsOrders s s := ⟨rfl, rfl⟩

theorem KeepsOrders.trans {s t u : State} (h : KeepsOrders s t) (h' : KeepsOrders t u) : KeepsOrders s u :=
  ⟨h'.1.trans h.1, h'.2.trans h.2⟩

theorem KeepsOrders.setSv (s : State) (v : Sv) (hh : v.hold = s.sv.hold) (hl : v.latch = s.sv.latch) :
    KeepsOrders s (s.setSv v) := ⟨hh, hl⟩

/-- Fittedness depends on the configuration alone. -/
theorem OnlyAcSv.fitted_eq {s t : State} (h : OnlyAcSv s t) (k : Chan) : fitted t k = fitted s k := by
  unfold OnlyAcSv at h; obtain ⟨_, _, _, _, _, _, _, hct, _, _⟩ := h
  simp [fitted, hct]

/-! ### Fault reports and derivations: the Supervisor alone -/

theorem raiseFault_onlySv (c : FaultCode) (sub : Subject) (s : State) : OnlySv s (raiseFault c sub s) := .setSv s _

theorem reportInactive_onlySv (c : FaultCode) (sub : Subject) (s : State) : OnlySv s (reportInactive c sub s) :=
  .setSv s _

theorem takeFault_keeps (sv : Sv) (c : FaultCode) (sub : Subject) (d : Option Nat) (n : Nat) :
    (sv.takeFault c sub d n).hold = sv.hold ∧ (sv.takeFault c sub d n).latch = sv.latch ∧
      (sv.takeFault c sub d n).view = sv.view ∧ (sv.takeFault c sub d n).routeOpen = sv.routeOpen ∧
      (sv.takeFault c sub d n).conf = sv.conf ∧ (sv.takeFault c sub d n).steering = sv.steering ∧
      (sv.takeFault c sub d n).level = sv.level ∧ (sv.takeFault c sub d n).shortfall = sv.shortfall := by
  unfold Sv.takeFault; dsimp only; split_ifs <;> exact ⟨rfl, rfl, rfl, rfl, rfl, rfl, rfl, rfl⟩

theorem raiseFault_keeps (c : FaultCode) (sub : Subject) (s : State) : KeepsOrders s (raiseFault c sub s) :=
  ⟨(takeFault_keeps _ _ _ _ _).1, (takeFault_keeps _ _ _ _ _).2.1⟩

@[simp] theorem raiseFault_view (c : FaultCode) (sub : Subject) (s : State) : (raiseFault c sub s).sv.view = s.sv.view :=
  (takeFault_keeps _ _ _ _ _).2.2.1

@[simp] theorem reportInactive_view (c : FaultCode) (sub : Subject) (s : State) :
    (reportInactive c sub s).sv.view = s.sv.view := rfl

theorem reportInactive_keeps (c : FaultCode) (sub : Subject) (s : State) : KeepsOrders s (reportInactive c sub s) :=
  ⟨rfl, rfl⟩

theorem derive_onlySv (s : State) : OnlySv s (derive s) := by
  unfold derive; dsimp only; split_ifs
  · exact (OnlySv.setSv s _).trans (raiseFault_onlySv _ _ _)
  · exact (OnlySv.setSv s _).trans (reportInactive_onlySv _ _ _)
  · exact .setSv s _

theorem derive_keeps (s : State) : KeepsOrders s (derive s) := by
  unfold derive; dsimp only; split_ifs
  · exact (KeepsOrders.setSv s _ rfl rfl).trans (raiseFault_keeps _ _ _)
  · exact ⟨rfl, rfl⟩
  · exact ⟨rfl, rfl⟩

@[simp] theorem derive_view (s : State) : (derive s).sv.view = s.sv.view := by
  unfold derive; dsimp only; split_ifs <;> simp

/-- A fault report with room in the list leaves its record, active and stamped. -/
theorem raiseFault_raised (c : FaultCode) (sub : Subject) (s : State) : Raised c sub s (raiseFault c sub s) := by
  intro hroom
  have hd : stampDistance s = if s.pfu.conf = .unplaced then none else some (s.odo.r / 1000) := by
    simp [stampDistance, wholeMm]
  have restamped (h : ∃ f ∈ s.sv.faults, f.concerns c sub = true) :
      ∃ f ∈ s.sv.faults.map (fun f => if f.concerns c sub then f.stamp (stampDistance s) s.odo.frameNo else f),
        f.code = c ∧ f.subject = sub ∧ f.active = true ∧ f.frame = s.odo.frameNo ∧ f.distance = stampDistance s := by
    obtain ⟨f, hf, hc⟩ := h
    refine ⟨_, List.mem_map_of_mem hf, ?_⟩
    rw [if_pos hc]
    exact ⟨by simp_all [FaultRecord.concerns, FaultRecord.stamp], by simp_all [FaultRecord.concerns, FaultRecord.stamp],
      rfl, rfl, rfl⟩
  rw [← hd]
  show ∃ f ∈ (s.sv.takeFault c sub (stampDistance s) s.odo.frameNo).faults, _
  unfold Sv.takeFault; dsimp only
  split_ifs with h1 h2
  · obtain ⟨f, hf, h⟩ := List.any_eq_true.1 h1
    exact restamped ⟨f, hf, (Bool.and_eq_true_iff.1 h).1⟩
  · exact restamped (by simpa using h2)
  all_goals exact ⟨_, List.mem_append_right _ (List.mem_singleton_self _), rfl, rfl, rfl, rfl, rfl⟩

/-- What a derivation leaves is what R136, R137 and R140 give for the view it was made from. -/
theorem derive_derived (s : State) :
    (derive s).sv.steering = steeringModeOf s.ct.table s.sv.view ∧
      (derive s).sv.level = levelOf s.ct.table s.sv.view s.sv.latch ∧
      (derive s).sv.shortfall = shortfallOf s.ct.table s.sv.view s.sv.routeOpen s.sv.conf := by
  have kept (s' : State) := takeFault_keeps s'.sv .horizonShortfall .none (stampDistance s') s'.odo.frameNo
  unfold derive; dsimp only; split_ifs
  · exact ⟨(kept _).2.2.2.2.2.1, (kept _).2.2.2.2.2.2.1, (kept _).2.2.2.2.2.2.2⟩
  · exact ⟨rfl, rfl, rfl⟩
  · exact ⟨rfl, rfl, rfl⟩

/-- A derivation that finds the horizon shortfall condition newly met raises HORIZON_SHORTFALL (R140). -/
theorem derive_raises (s : State) (h : s.sv.shortfall = false) (h' : (derive s).sv.shortfall = true) :
    Raised .horizonShortfall .none s (derive s) := by
  rw [(derive_derived s).2.2] at h'
  unfold derive; simp only [h, h', Bool.not_false, Bool.and_self, if_true]
  exact fun hroom => raiseFault_raised .horizonShortfall .none _ hroom

/-- A derivation that finds the condition no longer met ends its record (R140). -/
theorem derive_ends (s : State) (h : s.sv.shortfall = true) (h' : (derive s).sv.shortfall = false) :
    ∀ f ∈ (derive s).sv.faults, f.code = .horizonShortfall → f.subject = .none → f.active = false := by
  rw [(derive_derived s).2.2] at h'
  unfold derive; simp only [h, h', Bool.not_true, Bool.not_false, Bool.and_self, if_true, if_false, Bool.false_eq_true]
  intro f hf hc hs
  obtain ⟨g, -, rfl⟩ := List.mem_map.1 (show f ∈ s.sv.faults.map _ from hf)
  split_ifs at hc hs ⊢ with hg
  · rfl
  · exact absurd hg (by simp [FaultRecord.concerns, hc, hs])

theorem reportSource_onlySv (k : Chan) (s : State) : OnlySv s (reportSource k s) := by
  unfold reportSource; dsimp only; split_ifs
  · exact .refl s
  · exact (OnlySv.setSv s _).trans (derive_onlySv _)

theorem reportSource_keeps (k : Chan) (s : State) : KeepsOrders s (reportSource k s) := by
  unfold reportSource; dsimp only; split_ifs
  · exact .refl s
  · exact (KeepsOrders.setSv s _ rfl rfl).trans (derive_keeps _)

theorem reportRoute_onlySv (s : State) : OnlySv s (reportRoute s) := by
  unfold reportRoute; split_ifs
  · exact .refl s
  · exact (OnlySv.setSv s _).trans (derive_onlySv _)

theorem reportRoute_keeps (s : State) : KeepsOrders s (reportRoute s) := by
  unfold reportRoute; split_ifs
  · exact .refl s
  · exact (KeepsOrders.setSv s _ rfl rfl).trans (derive_keeps _)

theorem reportState_onlySv (k : Chan) (s : State) : OnlySv s (reportState k s) := by
  unfold reportState; dsimp only; split_ifs
  · exact .refl s
  · exact (OnlySv.setSv s _).trans (derive_onlySv _)

theorem reportState_keeps (k : Chan) (s : State) : KeepsOrders s (reportState k s) := by
  unfold reportState; dsimp only; split_ifs
  · exact .refl s
  · exact (KeepsOrders.setSv s _ rfl rfl).trans (derive_keeps _)

@[simp] theorem reportState_ac (k : Chan) (s : State) : (reportState k s).ac = s.ac := (reportState_onlySv k s).2.2.2.2.2.2.2.1

@[simp] theorem derive_ac (s : State) : (derive s).ac = s.ac := (derive_onlySv s).2.2.2.2.2.2.2.1

@[simp] theorem raiseFault_ac (c : FaultCode) (sub : Subject) (s : State) : (raiseFault c sub s).ac = s.ac := rfl

@[simp] theorem reportInactive_ac (c : FaultCode) (sub : Subject) (s : State) : (reportInactive c sub s).ac = s.ac := rfl

@[simp] theorem reportSource_ac (k : Chan) (s : State) : (reportSource k s).ac = s.ac :=
  (reportSource_onlySv k s).2.2.2.2.2.2.2.1

@[simp] theorem reportRoute_ac (s : State) : (reportRoute s).ac = s.ac := (reportRoute_onlySv s).2.2.2.2.2.2.2.1

theorem reportChannelInactive_onlySv (k : Chan) (s : State) : OnlySv s (reportChannelInactive k s) := by
  unfold reportChannelInactive channelCodes; simp only [List.foldl]
  exact ((((((OnlySv.refl s).trans (reportInactive_onlySv _ _ _)).trans (reportInactive_onlySv _ _ _)).trans
    (reportInactive_onlySv _ _ _)).trans (reportInactive_onlySv _ _ _)).trans (reportInactive_onlySv _ _ _)).trans
    (reportInactive_onlySv _ _ _)

/-! ### A channel's change: the channels and the Supervisor -/

theorem putChannel_onlyAcSv (k : Chan) (ch : Channel) (s : State) : OnlyAcSv s (putChannel k ch s) := by
  simp [putChannel, OnlyAcSv]

@[simp] theorem putChannel_ac (k : Chan) (ch : Channel) (s : State) : (putChannel k ch s).ac = s.ac.set k ch := rfl

@[simp] theorem putChannel_sv (k : Chan) (ch : Channel) (s : State) : (putChannel k ch s).sv = s.sv := rfl

theorem centringOrder_onlyAcSv (k : Chan) (s : State) : OnlyAcSv s (centringOrder k s) := by
  unfold centringOrder; dsimp only; split_ifs
  · exact (putChannel_onlyAcSv _ _ _).trans (reportState_onlySv _ _).toAcSv
  · exact .refl s

/-- A centring order, whole: the named channel alone may change, and it enters CENTRING only from a released state
(R128). -/
theorem centringOrder_ac (k : Chan) (s : State) :
    (centringOrder k s).ac = if (s.ac.get k).state.released then s.ac.set k ((s.ac.get k).toCentring false) else s.ac := by
  unfold centringOrder; dsimp only; split_ifs <;> simp

theorem centringOrders_onlyAcSv (s : State) : OnlyAcSv s (centringOrders s) :=
  (((centringOrder_onlyAcSv _ _).trans (centringOrder_onlyAcSv _ _)).trans (centringOrder_onlyAcSv _ _)).trans
    (centringOrder_onlyAcSv _ _)

/-- Centring orders to every channel, whole: each released channel enters CENTRING, every other stands (R128). -/
theorem centringOrders_get (s : State) (k : Chan) :
    (centringOrders s).ac.get k =
      if (s.ac.get k).state.released then (s.ac.get k).toCentring false else s.ac.get k := by
  unfold centringOrders
  cases k <;> simp only [centringOrder_ac] <;> (repeat' split_ifs) <;> simp_all [Quad.get, Quad.set]

theorem setLatch_onlyAcSv (s : State) : OnlyAcSv s (setLatch s) :=
  ((OnlySv.setSv s _).toAcSv.trans (centringOrders_onlyAcSv _)).trans (derive_onlySv _).toAcSv

theorem reportChange_onlyAcSv (k : Chan) (before : Channel) (s : State) : OnlyAcSv s (reportChange k before s) := by
  unfold reportChange; dsimp only; split_ifs
  · exact .refl s
  · exact (reportState_onlySv _ _).toAcSv.trans (centringOrder_onlyAcSv _ _)
  · exact (reportState_onlySv _ _).toAcSv

/-- The report of a channel's change, whole as to the channels: its partner is ordered to centre where the partner rule
calls for it (R129), and no other channel changes. -/
theorem reportChange_ac (k : Chan) (before : Channel) (s : State) :
    (reportChange k before s).ac =
      if ¬((before.state = (s.ac.get k).state ∧ before.mark = (s.ac.get k).mark)) ∧
          callsPartnerRule (s.ac.get k) = true ∧ (s.ac.get k.partner).state.released = true then
        s.ac.set k.partner ((s.ac.get k.partner).toCentring false)
      else s.ac := by
  unfold reportChange; dsimp only; split_ifs <;> simp_all [centringOrder_ac]

theorem foldl_raise_onlySv (k : Chan) (l : List FaultCode) (s : State) :
    OnlySv s (l.foldl (fun s c => raiseFault c (.chan k) s) s) := by
  induction l generalizing s with
  | nil => exact .refl s
  | cons c l ih => exact (raiseFault_onlySv c (.chan k) s).trans (ih _)

theorem commit_onlyAcSv (k : Chan) (st : ChanStep) (s : State) : OnlyAcSv s (commit k st s) := by
  unfold commit; dsimp only
  have h := (foldl_raise_onlySv k st.faults s).toAcSv
  split_ifs
  · exact ((h.trans (putChannel_onlyAcSv _ _ _)).trans (reportChange_onlyAcSv _ _ _)).trans (setLatch_onlyAcSv _)
  · exact (h.trans (putChannel_onlyAcSv _ _ _)).trans (reportChange_onlyAcSv _ _ _)

/-- A committed change without LOCK_FAIL, whole as to the channels: the channel's new record stands, and its partner is
ordered to centre where the partner rule calls for it. -/
theorem commit_ac (k : Chan) (st : ChanStep) (s : State) (h : st.faults.contains .lockFail = false) :
    (commit k st s).ac =
      if ¬((s.ac.get k).state = st.ch.state ∧ (s.ac.get k).mark = st.ch.mark) ∧ callsPartnerRule st.ch = true ∧
          (s.ac.get k.partner).state.released = true then
        (s.ac.set k st.ch).set k.partner ((s.ac.get k.partner).toCentring false)
      else s.ac.set k st.ch := by
  have hac := (foldl_raise_onlySv k st.faults s).2.2.2.2.2.2.2.1
  unfold commit; dsimp only
  rw [h]; simp only [Bool.false_eq_true, if_false, reportChange_ac, putChannel_ac, Quad.get_set_self, hac]
  rw [Quad.get_set_ne _ _ (Chan.partner_ne k)]

/-- The channel of a committed change without LOCK_FAIL holds its new record. -/
theorem commit_get_self (k : Chan) (st : ChanStep) (s : State) (h : st.faults.contains .lockFail = false) :
    (commit k st s).ac.get k = st.ch := by
  rw [commit_ac k st s h]; split_ifs
  · rw [Quad.get_set_ne _ _ (Chan.ne_partner k), Quad.get_set_self]
  · simp

/-! ### Thresholds, deliveries, completions, sensor changes -/

theorem homingTimeout_onlyAcSv (k : Chan) (s : State) : OnlyAcSv s (homingTimeout k s) := by
  unfold homingTimeout; dsimp only; split_ifs
  · exact commit_onlyAcSv _ _ _
  · exact .refl s

theorem lockStuck_onlyAcSv (k : Chan) (s : State) : OnlyAcSv s (lockStuck k s) := by
  unfold lockStuck; dsimp only; split_ifs
  · exact commit_onlyAcSv _ _ _
  · exact .refl s

theorem lockFail_onlyAcSv (k : Chan) (s : State) : OnlyAcSv s (lockFail k s) := by
  unfold lockFail; dsimp only; split_ifs
  · exact commit_onlyAcSv _ _ _
  · exact .refl s

theorem settleFramesReached_onlyAcSv (k : Chan) (s : State) : OnlyAcSv s (settleFramesReached k s) := by
  unfold settleFramesReached; dsimp only; split_ifs
  · exact commit_onlyAcSv _ _ _
  · exact .refl s

theorem centringTimerExpiry_onlyAcSv (k : Chan) (s : State) : OnlyAcSv s (centringTimerExpiry k s) := by
  unfold centringTimerExpiry; dsimp only; split_ifs
  · exact (commit_onlyAcSv _ _ _).trans (commit_onlyAcSv _ _ _)
  · exact (commit_onlyAcSv _ _ _).trans (commit_onlyAcSv _ _ _)
  · exact .refl s

theorem trackingError_onlyAcSv (k : Chan) (s : State) : OnlyAcSv s (trackingError k s) := by
  unfold trackingError; dsimp only; split_ifs
  · exact commit_onlyAcSv _ _ _
  · exact .refl s

theorem deliver_onlyAcSv (k : Chan) (v : Int) (s : State) : OnlyAcSv s (deliver k v s) :=
  (((((commit_onlyAcSv _ _ _).trans (homingTimeout_onlyAcSv _ _)).trans (lockStuck_onlyAcSv _ _)).trans
    (settleFramesReached_onlyAcSv _ _)).trans (centringTimerExpiry_onlyAcSv _ _)).trans (lockFail_onlyAcSv _ _)

theorem loadLoopDuty_onlyAcSv (k : Chan) (s : State) : OnlyAcSv s (loadLoopDuty k s) := by
  unfold loadLoopDuty; dsimp only; split_ifs
  · exact putChannel_onlyAcSv _ _ _
  · exact .refl s

theorem completeConversion_onlyAcSv (k : Chan) (raw : Nat) (s : State) : OnlyAcSv s (completeConversion k raw s) := by
  unfold completeConversion; dsimp only
  split
  · exact .refl s
  · have hwork : ∀ st, OnlyAcSv s (trackingError k (commit k st s)) := fun st =>
      (commit_onlyAcSv _ _ _).trans (trackingError_onlyAcSv _ _)
    (repeat' split) <;>
      first | exact commit_onlyAcSv _ _ _ | exact hwork _ | exact (hwork _).trans (loadLoopDuty_onlyAcSv _ _)

theorem drivePeriodStart_onlyAcSv (k : Chan) (s : State) : OnlyAcSv s (drivePeriodStart k s) := putChannel_onlyAcSv _ _ _

theorem lockContactChange_onlyAcSv (k : Chan) (lke lkr : Bool) (s : State) :
    OnlyAcSv s (lockContactChange k lke lkr s) := by
  unfold lockContactChange; dsimp only; split_ifs
  · exact .refl s
  · exact commit_onlyAcSv _ _ _

theorem centreSensorChange_onlyAcSv (k : Chan) (ctl ctr : Bool) (s : State) :
    OnlyAcSv s (centreSensorChange k ctl ctr s) := by
  unfold centreSensorChange; dsimp only; split_ifs
  · exact .refl s
  · exact commit_onlyAcSv _ _ _

/-! ### Operations over the channels -/

theorem releaseIf_onlyAcSv (q : Chan → Bool) (k : Chan) (s : State) : OnlyAcSv s (releaseIf q k s) := by
  unfold releaseIf; split_ifs
  · exact commit_onlyAcSv _ _ _
  · exact .refl s

theorem releaseAll_onlyAcSv (s : State) : OnlyAcSv s (releaseAll s) :=
  (((releaseIf_onlyAcSv _ _ _).trans (releaseIf_onlyAcSv _ _ _)).trans (releaseIf_onlyAcSv _ _ _)).trans
    (releaseIf_onlyAcSv _ _ _)

theorem resumeOne_onlyAcSv (k : Chan) (s : State) : OnlyAcSv s (resumeOne k s) := by
  unfold resumeOne; dsimp only; split_ifs
  · exact commit_onlyAcSv _ _ _
  · exact .refl s

theorem resumeAll_onlyAcSv (s : State) : OnlyAcSv s (resumeAll s) :=
  (((resumeOne_onlyAcSv _ _).trans (resumeOne_onlyAcSv _ _)).trans (resumeOne_onlyAcSv _ _)).trans
    (resumeOne_onlyAcSv _ _)

theorem inactiveIfFaulted_onlyAcSv (k : Chan) (s : State) : OnlyAcSv s (inactiveIfFaulted k s) := by
  unfold inactiveIfFaulted; split
  · exact (reportChannelInactive_onlySv k s).toAcSv
  · exact .refl s

theorem rehome_onlyAcSv (k : Chan) (s : State) : OnlyAcSv s (rehome k s) := commit_onlyAcSv _ _ _

theorem clearChannel_onlyAcSv (k : Chan) (s : State) : OnlyAcSv s (clearChannel k s) := by
  unfold clearChannel; split_ifs
  · exact (reportChannelInactive_onlySv k s).toAcSv.trans (rehome_onlyAcSv _ _)
  · exact .refl s

/-! ### Records that end -/

theorem Ends.refl (s : State) : Ends (fun _ => false) s s := by simp [Ends]

theorem Ends.onlyEnds {ended : FaultRecord → Bool} {s t : State} (h : Ends ended s t) : OnlyEnds s t := ⟨⟨ended, h.1⟩, h.2⟩

theorem reportInactive_ends (c : FaultCode) (sub : Subject) (s : State) :
    Ends (·.concerns c sub) s (reportInactive c sub s) := ⟨rfl, rfl, rfl⟩

/-- Two operations end what either ends. -/
theorem Ends.trans {e e' : FaultRecord → Bool} {s t u : State} (h : Ends e s t) (h' : Ends e' t u)
    (hk : ∀ f, e' { f with active := false } = e' f) : Ends (fun f => e f || e' f) s u := by
  refine ⟨?_, h'.2.1.trans h.2.1, h'.2.2.trans h.2.2⟩
  rw [h'.1, h.1, List.map_map]
  refine List.map_congr_left fun f _ => ?_
  by_cases he : e f <;> by_cases he' : e' f <;> simp [he, he', hk]

/-! ### The limits of a sample, and the reference -/

@[simp] theorem useLimits_ac (s : State) : (useLimits s).ac = s.ac := rfl
@[simp] theorem useLimits_ss (s : State) : (useLimits s).ss = s.ss := rfl
@[simp] theorem useLimits_sv (s : State) : (useLimits s).sv = s.sv := rfl
@[simp] theorem useLimits_table (s : State) : (useLimits s).ct.table = s.ct.table := rfl
@[simp] theorem useLimits_lockTime (s : State) : (useLimits s).ct.used.lockTime = s.ct.table.lockTime := rfl
@[simp] theorem useLimits_carryLimit (s : State) : (useLimits s).ct.used.carryLimit = s.ct.table.carryLimit := rfl
@[simp] theorem useLimits_fitted (s : State) (k : Chan) : fitted (useLimits s) k = fitted s k := rfl

/-- A reference is fresh for a closed frame when no expiry, this one among them, has found it older than the hold time
(R58). -/
theorem freshRef_judgeRef {hold rest : Nat} {ref : Option SpeedRef} {r : SpeedRef} :
    freshRef (judgeRef hold rest ref) = some r ↔
      ∃ r₀, ref = some r₀ ∧ r₀.stale = false ∧ r₀.age + rest ≤ msToBitTimes hold ∧
        r = { r₀ with age := r₀.age + rest, stale := false } := by
  rcases ref with _ | r₀
  · simp [freshRef, judgeRef]
  · simp only [freshRef, judgeRef, Option.map_some, Option.filter_eq_some_iff, Option.some.injEq, exists_eq_left']
    constructor
    · rintro ⟨rfl, h⟩
      have h : r₀.stale = false ∧ r₀.age + rest ≤ msToBitTimes hold := by simpa using h
      exact ⟨h.1, h.2, by simpa using h⟩
    · rintro ⟨h1, h2, rfl⟩
      simpa [h1] using h2

end Sys2Proof.Machine
end

