-- ==== Sys2Proof/Laws/Line.lean ====
section
/-! SUPPORT. What the Line Interface does with a request that a ready part receives, said once for all requests. -/

namespace Sys2Proof.Machine

@[simp] theorem received_power (h : Hdr) (s : State) : (received h s).power = s.power := rfl
@[simp] theorem received_rw (h : Hdr) (s : State) : (received h s).rw = s.rw := rfl
@[simp] theorem received_odo (h : Hdr) (s : State) : (received h s).odo = s.odo := rfl
@[simp] theorem received_pfu (h : Hdr) (s : State) : (received h s).pfu = s.pfu := rfl
@[simp] theorem received_ss (h : Hdr) (s : State) : (received h s).ss = s.ss := rfl
@[simp] theorem received_ac (h : Hdr) (s : State) : (received h s).ac = s.ac := rfl
@[simp] theorem received_sv (h : Hdr) (s : State) : (received h s).sv = s.sv := rfl
@[simp] theorem received_ct (h : Hdr) (s : State) : (received h s).ct = s.ct := rfl
@[simp] theorem received_path (h : Hdr) (s : State) : (received h s).path = s.path := rfl
@[simp] theorem received_pending (h : Hdr) (s : State) : (received h s).pending = s.pending := rfl

@[simp] theorem received_auth (h : Hdr) (s : State) : (received h s).aa.auth = s.aa.auth := by
  unfold received; cases h.src <;> rfl

@[simp] theorem received_offer (h : Hdr) (s : State) : (received h s).aa.offer = s.aa.offer := by
  unfold received; cases h.src <;> rfl

@[simp] theorem holds_received (h : Hdr) (s : State) (m : Master) : holds (received h s) m = holds s m := by simp [holds]

@[simp] theorem atStandstill_received (h : Hdr) (s : State) : atStandstill (received h s) = atStandstill s := rfl

@[simp] theorem fitted_received (h : Hdr) (s : State) (k : Chan) : fitted (received h s) k = fitted s k := rfl

@[simp] theorem whenOn_on {s : State} {f : State → State} (h : s.power = .on) : whenOn s f = f s := by
  unfold whenOn; rw [h]

@[simp] theorem flag_receiver (l : Li) (r : Receiver) (b : Bool) : (l.flag r b).receiver = r := rfl
@[simp] theorem flag_inFrame (l : Li) (r : Receiver) (b : Bool) : (l.flag r b).inFrame = b := rfl
@[simp] theorem flag_line (l : Li) (r : Receiver) (b : Bool) : (l.flag r b).line = .busy := rfl
@[simp] theorem flag_ones (l : Li) (r : Receiver) (b : Bool) : (l.flag r b).ones = 0 := rfl
@[simp] theorem flag_queue (l : Li) (r : Receiver) (b : Bool) : (l.flag r b).queue = l.queue := rfl
@[simp] theorem flag_service (l : Li) (r : Receiver) (b : Bool) : (l.flag r b).service = l.service := rfl
@[simp] theorem flag_overrun (l : Li) (r : Receiver) (b : Bool) : (l.flag r b).overrun = l.overrun := rfl
@[simp] theorem flag_address (l : Li) (r : Receiver) (b : Bool) : (l.flag r b).address = l.address := rfl

/-- When the line's ones are counted (R167, R180). -/
theorem seesOnes_iff {l : Li} : l.seesOnes = true ↔ (l.receiver = .hunting ∨ l.receiver = .waiting) ∧ l.inFrame = false := by
  rcases l with ⟨_, r, b, _⟩
  cases r <;> simp [Li.seesOnes]

@[simp] theorem flag_bitTime (l : Li) (r : Receiver) (b : Bool) : (l.flag r b).bitTime = l.bitTime := rfl

/-- The count of unbroken ones one bit time later: it stands inside a frame and where the receiver is not at the line, and
otherwise goes on or starts again by what the line carries (R167). -/
theorem tick_ones (l : Li) : l.tick.ones =
    if l.seesOnes then if Config.lineCarriesOne l.bitTime then min (l.ones + 1) 20 else 0 else l.ones := rfl

@[simp] theorem tick_bitTime (l : Li) : l.tick.bitTime = l.bitTime + 1 := rfl
@[simp] theorem tick_line (l : Li) : l.tick.line = l.line := rfl
@[simp] theorem tick_receiver (l : Li) : l.tick.receiver = l.receiver := rfl
@[simp] theorem tick_inFrame (l : Li) : l.tick.inFrame = l.inFrame := rfl

/-- LINE_FREE is no event without 16 counted ones (R167). -/
theorem lineFree_of_few_ones {s : State} (h : s.li.ones < 16) : lineFree s = s := by
  unfold lineFree; rw [if_neg]; rintro ⟨-, h'⟩; exact absurd (Nat.lt_of_lt_of_le h h') (Nat.lt_irrefl _)

/-- A flag noted outside SLEEP, and one in SLEEP (R167, R180). -/
theorem noteFlag_awake {s : State} {b : Bool} (h : s.ct.mode ≠ .sleep) :
    noteFlag b s = s.setLi { s.li with inFrame := b, line := .busy, ones := 0 } := by simp [noteFlag, h, Li.flag]

theorem noteFlag_asleep {s : State} {b : Bool} (h : s.ct.mode = .sleep) : noteFlag b s = s := by simp [noteFlag, h]

/-- When a waiting reply may start (R173). -/
theorem mayReply_iff {l : Li} {v : Service} :
    l.mayReply v = true ↔ v.reply = none ∧ l.line = .free ∧ 20 ≤ l.ones ∧ v.age < 500 := by
  simp only [Li.mayReply, Bool.and_eq_true, Option.isNone_iff_eq_none, beq_iff_eq, decide_eq_true_eq, and_assoc]
  exact Iff.rfl

/-- A reply that may not start leaves the part as it was (R173). -/
theorem replyStart_of_not_mayReply {s : State} (h : ∀ v, s.li.service = some v → s.li.mayReply v = false) :
    replyStart s = s := by
  unfold replyStart
  split
  · rfl
  · rename_i v hv
    simp [h v hv]

/-- The acceptance of a frame reloads its sender's presence (R145), whatever then becomes of it. -/
theorem presenceReload_close (h : Hdr) (s : State) : presenceReload h.src (closeReception s) = received h s := by
  unfold presenceReload closeReception received; cases h.src <;> rfl

/-- An addressed request received by a ready part is judged at once, and stays in service with the outcome of that
judgement. -/
theorem receiveRequest_addressed {h : Hdr} {req : Request} {s : State} (hr : Ready s) (hd : h.dest = .addressed) :
    receiveRequest h req s =
      inService h req (judge h.src req (received h s)).result (judge h.src req (received h s)).items
        (judge h.src req (received h s)).state := by
  obtain ⟨⟨-, hrun⟩, hserv, hq⟩ := hr
  have hserv' : (received h s).li.service = none := hserv
  have hq' : (received h s).li.queue = [] := hq
  have hset : ∀ l, ((received h s).setLi l).setLi { (received h s).li with queue := [], service := none } =
      received h s := by
    intro l; rw [← hq', ← hserv']; rfl
  unfold receiveRequest
  rw [if_pos hrun]
  unfold acceptFrame
  simp only [presenceReload_close, passesFilter, hd, if_true]
  unfold enqueue serve
  simp only [hq', List.length_nil, Config.queueDepth, Nat.zero_lt_succ, if_true, State.setLi_li, List.nil_append,
    List.length_cons, Nat.zero_add]
  unfold serveUpTo
  simp only [State.setLi_li, hserv']
  unfold serveUpTo dispatch
  simp only [hd, Config.replyDeadline]
  exact congrArg (fun r => inService h req (judge h.src req r).result (judge h.src req r).items (judge h.src req r).state)
    (hset _)

/-- A broadcast received by a ready part: dropped at the filter (R169), or judged at once with no reply. -/
theorem receiveRequest_broadcast {h : Hdr} {req : Request} {s : State} (hr : Ready s) (hd : h.dest = .broadcast) :
    receiveRequest h req s =
      if broadcastPasses h.src req then serveUpTo 0 (judge h.src req (received h s)).state else received h s := by
  obtain ⟨⟨-, hrun⟩, hserv, hq⟩ := hr
  have hserv' : (received h s).li.service = none := hserv
  have hq' : (received h s).li.queue = [] := hq
  have hset : ∀ l, ((received h s).setLi l).setLi { (received h s).li with queue := [], service := none } =
      received h s := by
    intro l; rw [← hq', ← hserv']; rfl
  unfold receiveRequest
  rw [if_pos hrun]
  unfold acceptFrame
  simp only [presenceReload_close, passesFilter, hd]
  split_ifs
  · unfold enqueue serve
    simp only [hq', List.length_nil, Config.queueDepth, Nat.zero_lt_succ, if_true, State.setLi_li, List.nil_append,
      List.length_cons, Nat.zero_add]
    unfold serveUpTo
    simp only [State.setLi_li, hserv']
    unfold dispatch
    simp only [hd]
    exact congrArg (fun r => serveUpTo 0 (judge h.src req r).state) (hset _)
  · rfl

/-- In RUN a request of a known kind goes to its owner (R171). -/
theorem judge_run {m : Master} {req : Request} {s : State} {k : Kind} (hk : req.kind = some k) (hm : s.ct.mode = .run) :
    judge m req s = ownerTakes m req s := by
  unfold judge; simp [hk, hm]

/-- In WAKING a known request that is not a read is answered NOT_READY (R171 order 2). -/
theorem judge_waking {m : Master} {req : Request} {s : State} {k : Kind} (hk : req.kind = some k)
    (hm : s.ct.mode = .waking) (hr : k.isRead = false) : judge m req s = .refuse s .notReady := by
  unfold judge; simp [hk, hm, hr]

end Sys2Proof.Machine
end

