-- ==== Sys2Proof/Laws/PerInstr.lean ====
section
/-! SUPPORT. Statements about every command, one lemma per constructor. `PayloadLength` is the layout rule of R208: a
request row's kind has a code that names it, and its fields fill a payload of exactly the request length of its kind. -/

namespace Sys2Proof

theorem beBytes_length (n v : Nat) : (beBytes n v).length = n := by
  induction n generalizing v with
  | zero => rfl
  | succ n ih => simp [beBytes, ih]

theorem beSigned_length (n : Nat) (v : Int) : (beSigned n v).length = n := beBytes_length _ _

namespace Laws.PayloadLength

/-- The request of a request row has a kind, its kind byte names that kind, and its payload has the request length of the
kind (R208). -/
def Statement (i : Instr) : Prop :=
  ∀ h req, i.asRequest = some (h, req) →
    ∃ k, req.kind = some k ∧ kindOf req.kindCode = some k ∧ req.payload.length = k.requestLength

/-- An event row carries no request. -/
theorem of_event {i : Instr} (e : i.asRequest = none) : Statement i := by
  intro h req hi; rw [e] at hi; cases hi

/-- A request row carries the request it says. -/
theorem of_request {i : Instr} {h : Hdr} {req : Request} {k : Kind} (e : i.asRequest = some (h, req))
    (hk : req.kind = some k) (hc : kindOf req.kindCode = some k) (hl : req.payload.length = k.requestLength) :
    Statement i := by
  intro h' req' hi
  rw [e] at hi
  cases hi
  exact ⟨k, hk, hc, hl⟩

theorem openRoute (h : Hdr) (f : OpenRouteFields) : Statement (.openRoute h f) := of_request rfl rfl rfl rfl

theorem appendSegment (h : Hdr) (f : SegmentFields) : Statement (.appendSegment h f) := of_request rfl rfl rfl rfl

theorem closeRoute (h : Hdr) : Statement (.closeRoute h) := of_request rfl rfl rfl rfl

theorem speedReference (h : Hdr) (v : Int) (flags : Nat) : Statement (.speedReference h v flags) := of_request rfl rfl rfl rfl

theorem place (h : Hdr) (rRef u : Nat) : Statement (.place h rRef u) := of_request rfl rfl rfl rfl

theorem unlock (h : Hdr) : Statement (.unlock h) := of_request rfl rfl rfl rfl

theorem centreAll (h : Hdr) : Statement (.centreAll h) := of_request rfl rfl rfl rfl

theorem calibrate (h : Hdr) (channel : Nat) : Statement (.calibrate h channel) := of_request rfl rfl rfl rfl

theorem hold (h : Hdr) (mode : Nat) : Statement (.hold h mode) := of_request rfl rfl rfl rfl

theorem resume (h : Hdr) : Statement (.resume h) := of_request rfl rfl rfl rfl

theorem claim (h : Hdr) : Statement (.claim h) := of_request rfl rfl rfl rfl

theorem release (h : Hdr) : Statement (.release h) := of_request rfl rfl rfl rfl

theorem offer (h : Hdr) (target : Nat) : Statement (.offer h target) := of_request rfl rfl rfl rfl

theorem accept (h : Hdr) : Statement (.accept h) := of_request rfl rfl rfl rfl

theorem readStatus (h : Hdr) : Statement (.readStatus h) := of_request rfl rfl rfl rfl

theorem readPosition (h : Hdr) : Statement (.readPosition h) := of_request rfl rfl rfl rfl

theorem readChannel (h : Hdr) (channel : Nat) : Statement (.readChannel h channel) := of_request rfl rfl rfl rfl

theorem readWindow (h : Hdr) (position : Nat) : Statement (.readWindow h position) := of_request rfl rfl rfl rfl

theorem readFaults (h : Hdr) (position : Nat) : Statement (.readFaults h position) := of_request rfl rfl rfl rfl

theorem setConfig (h : Hdr) (param channel : Nat) (value : Int) : Statement (.setConfig h param channel value) := of_request rfl rfl rfl rfl

theorem setGain (h : Hdr) (gain : Nat) : Statement (.setGain h gain) := of_request rfl rfl rfl rfl

theorem sleep (h : Hdr) : Statement (.sleep h) := of_request rfl rfl rfl rfl

theorem restart (h : Hdr) : Statement (.restart h) := of_request rfl rfl rfl rfl

theorem clearFaults (h : Hdr) : Statement (.clearFaults h) := of_request rfl rfl rfl rfl

theorem frameClosed (bits : List Bool) : Statement (.frameClosed bits) := of_event rfl

theorem frameAbort : Statement .frameAbort := of_event rfl

theorem lineFree : Statement .lineFree := of_event rfl

theorem replyStart : Statement .replyStart := of_event rfl

theorem endOfService : Statement .endOfService := of_event rfl

theorem replyDrop : Statement .replyDrop := of_event rfl

theorem wake : Statement .wake := of_event rfl

theorem resetAsserted : Statement .resetAsserted := of_event rfl

theorem powerOnReset (straps : Nat) (pins : Quad SensorPins) : Statement (.powerOnReset straps pins) := of_event rfl

theorem stabilisationTimerExpiry : Statement .stabilisationTimerExpiry := of_event rfl

theorem frameTimerExpiry : Statement .frameTimerExpiry := of_event rfl

theorem tachoFailed (t : Tacho) : Statement (.tachoFailed t) := of_event rfl

theorem tachoDisagree : Statement .tachoDisagree := of_event rfl

theorem tachoAgreementReached : Statement .tachoAgreementReached := of_event rfl

theorem standstillReached : Statement .standstillReached := of_event rfl

theorem tachoCount (t : Tacho) (e : TachoEdge) : Statement (.tachoCount t e) := of_event rfl

theorem sampleAtPfu : Statement .sampleAtPfu := of_event rfl

theorem beaconMissed : Statement .beaconMissed := of_event rfl

theorem sampleAtRw : Statement .sampleAtRw := of_event rfl

theorem sampleAtSs : Statement .sampleAtSs := of_event rfl

theorem carryLimitExceeded (k : Chan) : Statement (.carryLimitExceeded k) := of_event rfl

theorem conversionCompletion (k : Chan) (raw : Nat) : Statement (.conversionCompletion k raw) := of_event rfl

theorem trackingError (k : Chan) : Statement (.trackingError k) := of_event rfl

theorem drivePeriodStart (k : Chan) : Statement (.drivePeriodStart k) := of_event rfl

theorem lockContactChange (k : Chan) (lke lkr : Bool) : Statement (.lockContactChange k lke lkr) := of_event rfl

theorem centreSensorChange (k : Chan) (ctl ctr : Bool) : Statement (.centreSensorChange k ctl ctr) := of_event rfl

theorem homingTimeout (k : Chan) : Statement (.homingTimeout k) := of_event rfl

theorem lockStuck (k : Chan) : Statement (.lockStuck k) := of_event rfl

theorem lockFail (k : Chan) : Statement (.lockFail k) := of_event rfl

theorem settleFramesReached (k : Chan) : Statement (.settleFramesReached k) := of_event rfl

theorem centringTimerExpiry (k : Chan) : Statement (.centringTimerExpiry k) := of_event rfl

theorem beaconTelegram (id : Nat) (checkGood : Bool) : Statement (.beaconTelegram id checkGood) := of_event rfl

theorem positionCorrection : Statement .positionCorrection := of_event rfl

theorem beaconMark : Statement .beaconMark := of_event rfl

theorem presenceTimerExpiry (m : Master) : Statement (.presenceTimerExpiry m) := of_event rfl

theorem offerTimerExpiry : Statement .offerTimerExpiry := of_event rfl

theorem openingFlag : Statement .openingFlag := of_event rfl

theorem supplyLoss : Statement .supplyLoss := of_event rfl

end Laws.PayloadLength

end Sys2Proof
end

