-- ==== Sys2Proof/Laws/Ranges.lean ====
section
/-! SUPPORT. The limits of the timers and the ranges of the invariants, each equal to a test that a concrete state decides. -/

namespace Sys2Proof.Machine

/-! ### Timers at their limits -/

/-- A late timer is one that its next increment brings to its limit. -/
theorem Reaches_iff {timer : Option Nat} {limit : Nat} : Reaches timer limit ↔ late timer limit = true := by
  cases timer <;> simp [Reaches, late]

@[simp] theorem not_Reaches_none (limit : Nat) : ¬Reaches none limit := by simp [Reaches_iff, late]

@[simp] theorem Reaches_some {n limit : Nat} : Reaches (some n) limit ↔ limit ≤ n + 1 := by simp [Reaches_iff, late]

/-- A channel whose four timers are idle meets no limit in a delivery. -/
theorem not_TimesOut_of_idle {s : State} {k : Chan} (hh : (s.ac.get k).homingT = none) (hl : (s.ac.get k).lockT = none)
    (hc : (s.ac.get k).centringT = none) : ¬TimesOut s k := by
  simp [TimesOut, hh, hl, hc]

/-- The limits that a delivery brings a channel to, as a test. -/
def timesOut (s : State) (k : Chan) : Bool :=
  let ch := s.ac.get k
  ((ch.state == .homing .assessing || ch.state == .homing .seeking) && late ch.homingT s.ct.table.homingLimit) ||
    ((ch.state == .homing .engaging || ch.state == .locked || ch.state == .releasing .awaiting || ch.state == .tracking ||
        ch.state == .holding || ch.state == .centring .engaging || ch.state == .faulted .lockAwaited ||
        ch.state == .faulted .lockEngaged) && late ch.lockT s.ct.table.lockTime) ||
    (ch.state == .centring .stepping && ch.centringT.any fun n =>
      s.ct.table.homingLimit ≤ if ch.theta.natAbs ≤ (s.ct.table.chan.get k).slew then n + 1 else n)

theorem TimesOut_iff {s : State} {k : Chan} : TimesOut s k ↔ timesOut s k = true := by
  simp only [TimesOut, timesOut, Reaches_iff, Bool.or_eq_true, Bool.and_eq_true, beq_iff_eq, Option.any_eq_true,
    decide_eq_true_eq, or_assoc]

/-! ### Ranges -/

theorem Option.forall_le_iff {timer : Option Nat} {limit : Nat} :
    (∀ n, timer = some n → n ≤ limit) ↔ (timer.all fun n => n ≤ limit) = true := by cases timer <;> simp

/-- A drive stage within its range, as a test. -/
def Drive.within : Drive → Bool
  | .off => true
  | .energised applied waiting => applied.natAbs ≤ 1000 && waiting.all fun d => d.natAbs ≤ 1000

theorem Drive.inRange_iff {d : Drive} : d.inRange ↔ d.within = true := by
  rcases d with _ | ⟨a, _ | w⟩ <;> simp [Drive.inRange, Drive.within]

/-- A channel's record within its ranges, as a test. -/
def Channel.within (ch : Channel) : Bool :=
  ch.sched.natAbs ≤ 800 && ch.z ≤ 4095 && ch.persist ≤ 100 &&
    ([ch.homingT, ch.lockT, ch.settle, ch.centringT].all fun timer => timer.all fun n => n ≤ 1000) && ch.drive.within

theorem Channel.RangeInv_iff {ch : Channel} : ch.RangeInv ↔ ch.within = true := by
  simp [Channel.RangeInv, Channel.within, Option.forall_le_iff, Drive.inRange_iff, and_assoc]

/-- A lookup answer that covers its point with fields in range, as a test. -/
def Covering.within (x : Int) (c : Covering) : Bool :=
  decide ((c.start : Int) ≤ x) && decide (x < c.start + c.length) &&
    match c.geo with
    | .straight => true
    | .arc κ => κ.natAbs ≤ 125000
    | .spiral κ κ' => κ.natAbs ≤ 125000 && κ'.natAbs ≤ 125000
    | .junction κ cap => κ.natAbs ≤ 125000 && cap ≤ 800

theorem Covering.Valid_iff {x : Int} {c : Covering} : c.Valid x ↔ c.within x = true := by
  rcases c with ⟨a, n, _ | _ | _ | _⟩ <;> simp [Covering.Valid, Covering.within, Geometry.Valid, and_assoc]

/-- What is handed over for one channel, as a test. -/
def HandEntry.within (e : HandEntry) : Bool :=
  e.points.all fun pts => (pts.atP.all fun c => c.within pts.p) && pts.atQ.all fun c => c.within pts.q

theorem HandEntry.Valid_iff {e : HandEntry} : e.Valid ↔ e.within = true := by
  unfold HandEntry.Valid HandEntry.within
  cases e.points <;> simp [Option.all_eq_true, Covering.Valid_iff]

/-- A centring order leaves a channel in none of the states it acts on (R110, R128). -/
theorem centred_released (c : Channel) : (centred c).state.released = false := by
  unfold centred; split <;> first | rfl | skip
  rename_i h1 h2 h3; cases h : c.state <;> simp_all [ChanState.released]

/-- What a centring order keeps: the target, the scheduled angle and the measurement with its conversion (R110). -/
theorem centred_keeps (c : Channel) : (centred c).theta = c.theta ∧ (centred c).sched = c.sched ∧
    (centred c).m = c.m ∧ (centred c).conv = c.conv := by
  unfold centred; split <;> exact ⟨rfl, rfl, rfl, rfl⟩

end Sys2Proof.Machine
end

