-- ==== Sys2Proof/Tests/Slice0.lean ====
section
/-! SUPPORT. Tests: values worked out in the spec (each with its section), ill-formed commands, and for every statement
with hypotheses a concrete state and operands that meet them, clause by clause where it has several. -/

open Sys2Proof Sys2Proof.Machine

set_option maxRecDepth 20000

namespace Sys2Proof.Tests

/-! ### Small states -/

/-- Cab A, the brake controller, cab B and the maintenance terminal, addressing the part; and cab A broadcasting. -/
def cabA : Hdr := ⟨.cabA, .addressed⟩
def cabB : Hdr := ⟨.cabB, .addressed⟩
def brake : Hdr := ⟨.brake, .addressed⟩
def maint : Hdr := ⟨.maint, .addressed⟩
def cabACast : Hdr := ⟨.cabA, .broadcast⟩
def brakeCast : Hdr := ⟨.brake, .broadcast⟩

/-- A channel in a state, otherwise as after reset with its contact reading as given. -/
def channelIn (st : ChanState) (c : Contact) : Channel := { Channel.reset c .centre with state := st }

/-- The Supervisor's view of a channel. -/
def viewIn (st : ChanState) (src : Source) : ChanView := ⟨st, false, src⟩

/-- RUN with every channel LOCKED, cab A the holder, both cabs PRESENT. -/
def run : State :=
  { State.reset with
    ct := { Ct.reset with mode := .run, stab := none }
    aa := { Aa.reset with auth := .held .cabA, p1 := ⟨.present, some ⟨200, 0⟩⟩, p2 := ⟨.present, some ⟨200, 7⟩⟩ }
    ac := Quad.build fun _ => channelIn .locked .engaged
    sv := { Sv.reset with view := Quad.build fun _ => viewIn .locked .carried } }

/-- One channel of a state replaced. -/
def withChannel (k : Chan) (ch : Channel) (s : State) : State := s.setAc (s.ac.set k ch)

/-- One channel of `run` put into a state. -/
def runWith (k : Chan) (st : ChanState) (c : Contact) : State := withChannel k (channelIn st c) run

def moving (s : State) : State := s.setOdo { s.odo with standstill := .moving }
def withAuth (a : Authority) (s : State) : State := s.setAa { s.aa with auth := a }
def withPath (p : Path) (s : State) : State := s.setPath p
def inMode (m : Mode) (s : State) : State := s.setCt { s.ct with mode := m }

/-- Two records across the wrap of the index, the second with a PENDING beacon. -/
def twoRecords : List Segment :=
  [{ index := 65535, geo := .straight, length := 8000, beacon := none },
   { index := 0, geo := .spiral 0 62500, length := 12000, beacon := some ⟨3071, 2500, .pending⟩ }]

/-- `run` with a route open over the two records and the position placed at 15 m with U 1 m. -/
def routed : State :=
  { run with
    rw := { isOpen := true, lead := .a, rear := 10000, front := 30000, next := 1, segs := twoRecords, horizonLow := false }
    odo := { run.odo with r := 15000000 }
    pfu := { conf := .placed, u := 1000000, miss := 0, missTold := false, lastCorrection := none, marks := [] }
    sv := { run.sv with routeOpen := true, conf := .placed } }

/-- `routed` with every channel in TRACKING, served by the window, moving. -/
def steering : State :=
  { routed with
    odo := { routed.odo with standstill := .moving, quiet := 0 }
    ss := Quad.build fun _ => { source := .fromWindow, carried := 40000, carry := 0, look := some 20000 }
    ac := Quad.build fun _ => { channelIn .tracking .released with
      theta := 100, sched := 100, m := 90, drive := .energised 20 (some 30), solenoid := true, conv := .inFlight false }
    sv := { routed.sv with
      view := Quad.build fun _ => viewIn .tracking .fromWindow, steering := .steering, level := .none } }

/-- `steering` with one channel replaced. -/
def steeringWith (k : Chan) (ch : Channel) : State := withChannel k ch steering

/-- A service whose reply has not started. -/
def waitingReply (h : Hdr) (req : Request) : Service :=
  { hdr := h, req := req, age := 0, result := .ok, items := [], reply := none }

/-- A reply in progress. -/
def started : Reply := { result := .ok, summary := summaryFor .cabA run, items := [] }

def withService (v : Service) (s : State) : State := s.setLi { s.li with service := some v }

/-- The same with the line at rest for the 20 bit times of R173. -/
def withReplyDue (v : Service) (s : State) : State :=
  (withService v s).setLi { (withService v s).li with line := .free, ones := 20 }

/-- A service in progress whose queue holds these frames. -/
def withQueue (q : List QFrame) (v : Service) (s : State) : State :=
  (withService v s).setLi { (withService v s).li with queue := q }

/-- A service whose 500 bit times have passed. -/
def lateReply (h : Hdr) (req : Request) : Service := { waitingReply h req with age := 500 }

/-- A service whose reply is being sent. -/
def sendingReply (h : Hdr) (req : Request) : Service := { waitingReply h req with reply := some started }

/-- An active record, and the same inactive. -/
def recordOf (c : FaultCode) (sub : Subject) (active : Bool) : FaultRecord :=
  { code := c, subject := sub, distance := none, frame := 1, active := active }

def withFaults (fs : List FaultRecord) (s : State) : State := s.setSv { s.sv with faults := fs }

/-- The records of two missed beacons, a position conflict and a silent holder, and a miss count of 2 to go with them. -/
def missing (s : State) : State :=
  withFaults [recordOf .beaconMissed .none true, recordOf .positionConflict .none true, recordOf .holderSilent .none true]
    (s.setPfu { s.pfu with miss := 2, missTold := true })

/-- Sixteen records of different codes and subjects, all active or all inactive. -/
def sixteen (active : Bool) : List FaultRecord :=
  ([FaultCode.lockStuck, .lockFail, .trackingError, .sensorRange].flatMap fun c =>
    Chan.all.map fun k => recordOf c (.chan k) active)

/-- `run` with channel 3 FAULTED, lock engaged, and its record beside an ended one. -/
def faultedRun : State :=
  { run with
    ac := run.ac.set .c3 (channelIn (.faulted .lockEngaged) .engaged)
    sv := { run.sv with
      view := run.sv.view.set .c3 (viewIn (.faulted .lockEngaged) .carried)
      faults := [recordOf .trackingError (.chan .c3) true, recordOf .holderSilent .none true] } }

/-! ### Invariants of the small states -/

/-- The ranges of a state, from their tests. -/
theorem in_range (s : State)
    (h : (s.odo.disagreeTold = true ↔ s.odo.disagree = Config.streakLimit) ∧
      (s.pfu.missTold = true ↔ Config.missLimit ≤ s.pfu.miss) ∧ (∀ k ∈ Chan.all, (s.ac.get k).within = true) ∧
      (∀ k ∈ Chan.all, (s.ss.get k).carried.natAbs ≤ 125000) ∧
      (∀ h ∈ s.path.atSs, ∀ k ∈ Chan.all, (h.entries.get k).within = true) ∧ s.li.ones ≤ Config.replyOnes ∧
      s.odo.r ≤ Config.routeEnd ∧ s.odo.frameNo < Config.wrap16 ∧ s.odo.disagree ≤ Config.streakLimit ∧
      s.odo.agree ≤ Config.streakLimit ∧ s.odo.failure.t1 < Config.failureLimit ∧
      s.odo.failure.t2 < Config.failureLimit ∧ s.odo.quiet ≤ Config.quietMax ∧ s.pfu.u ≤ Config.uncertaintyMax ∧
      s.pfu.miss ≤ Config.missMax ∧ (∀ k ∈ Chan.all, (s.ss.get k).carry ≤ Config.carryMax) ∧
      s.li.queue.length ≤ Config.queueDepth) : RangeInv s := by
  obtain ⟨h1, h2, h3, h4, h5, h6, h7, h8, h9, h10, h11, h12, h13, h14, h15, h16, h17⟩ := h
  exact ⟨h1, h2, fun k => Channel.RangeInv_iff.2 (h3 k (Chan.mem_all k)), fun k => h4 k (Chan.mem_all k),
    fun e he k => HandEntry.Valid_iff.2 (h5 e he k (Chan.mem_all k)), h6, h7, h8, h9, h10, h11, h12, h13, h14, h15,
    fun k => h16 k (Chan.mem_all k), h17⟩

/-- The view of a state with all four channels fitted and none of the ranges in question. -/
theorem view_stands (s : State) (h : (∀ k ∈ Chan.all, (s.sv.view.get k).state = (s.ac.get k).state ∧
      (s.sv.view.get k).mark = (s.ac.get k).mark) ∧
      (∀ k ∈ Chan.all, (s.sv.view.get k).source = (s.ss.get k).source) ∧ s.sv.routeOpen = s.rw.isOpen ∧
      s.sv.conf = s.pfu.conf ∧ s.sv.steering = steeringModeOf s.ct.table s.sv.view ∧
      s.sv.level = levelOf s.ct.table s.sv.view s.sv.latch ∧
      s.sv.shortfall = shortfallOf s.ct.table s.sv.view s.sv.routeOpen s.sv.conf) : ViewInv s :=
  ⟨fun k => h.1 k (Chan.mem_all k), fun k _ => h.2.1 k (Chan.mem_all k), h.2.2⟩

theorem faultedRun_view : ViewInv faultedRun := view_stands _ (by decide)

/-- The targets of a state in RUN, fitted throughout, with no mode change pending. -/
theorem targets_stand (s : State) (h : (∀ k ∈ Chan.all, ((s.ac.get k).state.targetIsZero = true → (s.ac.get k).theta = 0) ∧
      ((s.ac.get k).state = .centring .stepping → (s.ac.get k).centringT ≠ none →
        (s.ac.get k).centringT ≠ some 0 → (s.ac.get k).theta = 0) ∧
      (s.ac.get k).theta.natAbs ≤ (s.ct.table.chan.get k).angleLimit) ∧
      (∀ k ∈ Chan.all, (s.ac.get k).state ≠ .absent ∧ fitted s k = true) ∧ s.ct.mode = .run ∧
      s.ct.pendingMode = .none ∧ 1 ≤ s.ct.table.homingLimit) : TargetInv s := by
  obtain ⟨h1, h2, h3, h4, h5⟩ := h
  refine ⟨fun k => h1 k (Chan.mem_all k), fun k => ?_, fun h => absurd h3 h, fun h => absurd h4 h, h5⟩
  have := h2 k (Chan.mem_all k)
  simp [this]

/-- Bogie pairing of a state whose latch is clear. -/
theorem pairing_stands (s : State) (h : (∀ k ∈ Chan.all, callsPartnerRule (s.ac.get k) = true →
      (s.ac.get k.partner).state.released = false) ∧ s.sv.latch = false) : BogieInv s :=
  ⟨fun k => h.1 k (Chan.mem_all k), fun hl => by simp [h.2] at hl⟩

/-! ### Values worked out in the spec -/

/-- R166: generator x¹⁶ + x¹² + x⁵ + 1, register preset to all ones, complemented at the end, most significant bit first.
The value of the ASCII digits 1 to 9 under that check is D64EH. -/
theorem test_check_of_123456789 :
    checkBytes [0x31#8, 0x32#8, 0x33#8, 0x34#8, 0x35#8, 0x36#8, 0x37#8, 0x38#8, 0x39#8] = [0xD6#8, 0x4E#8] := by decide

/-- R2 and R41: 337.5 rounds to 338 and −337.5 to −338; −126.5 truncates to −126 toward zero. -/
theorem test_rounding : roundHalfAway 33750000 100000 = 338 ∧ roundHalfAway (-33750000) 100000 = -338 ∧
    roundHalfAway 56250000 100000 = 563 ∧ trunc (-253) 2 = -126 ∧ trunc 253 2 = 126 := by decide

/-- Section 2.7: the spiral 412 gives 46,875 at 1,256,264, then ψ_geo 422 and ψ_g 380 at gain 90. -/
theorem test_entering_the_spiral :
    Covering.curvature ⟨1247264, 12000, .spiral 0 62500⟩ 1256264 = 46875 ∧ geometricAngle 1 900 46875 = 422 ∧
      gainScaled 422 90 = 380 ∧ slewToward 352 380 20 = 372 ∧
      Covering.curvature ⟨1247264, 12000, .spiral 0 62500⟩ 1256305 = 47088 ∧ geometricAngle 1 900 47088 = 424 ∧
      gainScaled 424 90 = 382 ∧ geometricAngle (-1) 900 37500 = -338 := by decide

/-- Section 11.6: on the falling spiral 415, x_in 7,526 gives −47,037, and the match leaves a correction of −62 mm. -/
theorem test_beacon_fix_of_minus_62 :
    Covering.curvature ⟨1288264, 8000, .spiral 0 (-50000)⟩ 1295790 = -47037 ∧ geometricAngle (-1) 900 (-47037) = 423 ∧
      gainScaled 423 90 = 381 ∧
      (match exec .positionCorrection (withPath { Path.empty with corrections := [⟨-62, false⟩] }
          (run.setOdo { run.odo with r := 1291326410 })) with
        | .next t => t.odo.r
        | _ => 0) = 1291264000 := by decide

/-- Section 11.7: 7 and 6 pulses of 5,890 µm agree and give 38,285 µm; a fresh reference of 3,920 mm/s under slide gives
39,200 µm in 10 ms. -/
theorem test_motion_of_the_slide :
    FrameInput.motion ⟨⟨7, 6⟩, ⟨.working, .working⟩, none, ⟨5890, 5890⟩, 10⟩ = 38285 ∧
      FrameInput.motion ⟨⟨2, 3⟩, ⟨.working, .working⟩, some ⟨3920, true, false, true, false, 0, false⟩, ⟨5890, 5890⟩, 10⟩ =
        39200 := by decide

/-- Section 11.2: at the stabilisation expiry every channel enters HOMING, and a fresh completion with code 2,071 captures
it and locks. -/
theorem test_homing_captures_the_zero :
    (match exec .stabilisationTimerExpiry State.reset with
      | .next t => (t.ac.c1.state, t.ac.c1.conv, t.ct.mode)
      | _ => (.absent, .none, .sleep)) = (.homing .assessing, .inFlight false, .run) ∧
    (match exec (.conversionCompletion .c1 2071)
        (withChannel .c1 { channelIn (.homing .assessing) .engaged with conv := .inFlight false } run) with
      | .next t => (t.ac.c1.state, t.ac.c1.z)
      | _ => (.absent, 0)) = (.locked, 2071) := by decide

/-- A table word spells no command of this part: the table gives its rows no bits. -/
theorem test_no_word_spells_a_command : decodeTableWord 8 0xFF = none ∧ run.withFetchWord 8 0xFF = run := by decide

/-! ### Ill-formed commands -/

theorem test_ill_formed_requests :
    (Instr.openRoute cabA ⟨256, 0, 0, 0, 0⟩).wellFormed = false ∧
    (Instr.openRoute cabA ⟨1, 4294967296, 0, 0, 0⟩).wellFormed = false ∧
    (Instr.openRoute cabA ⟨1, 0, 65536, 0, 0⟩).wellFormed = false ∧
    (Instr.openRoute cabA ⟨1, 0, 0, 4294967296, 0⟩).wellFormed = false ∧
    (Instr.openRoute cabA ⟨1, 0, 0, 0, 65536⟩).wellFormed = false ∧
    (Instr.speedReference brake 32768 0).wellFormed = false ∧ (Instr.speedReference brake (-32769) 0).wellFormed = false ∧
    (Instr.speedReference brake 0 256).wellFormed = false ∧ (Instr.place cabA 4294967296 0).wellFormed = false ∧
    (Instr.place cabA 0 65536).wellFormed = false ∧ (Instr.calibrate cabA 256).wellFormed = false ∧
    (Instr.hold cabA 256).wellFormed = false ∧ (Instr.offer cabA 256).wellFormed = false ∧
    (Instr.readChannel cabA 256).wellFormed = false ∧ (Instr.readWindow cabA 256).wellFormed = false ∧
    (Instr.readFaults cabA 256).wellFormed = false ∧ (Instr.setConfig cabA 256 0 0).wellFormed = false ∧
    (Instr.setConfig cabA 1 256 0).wellFormed = false ∧ (Instr.setConfig cabA 1 0 2147483648).wellFormed = false ∧
    (Instr.setGain cabA 256).wellFormed = false := by decide

theorem test_ill_formed_records :
    (Instr.appendSegment cabA ⟨65536, 1, 0, 0, 0, 0, 0, 0, 0⟩).wellFormed = false ∧
    (Instr.appendSegment cabA ⟨0, 256, 0, 0, 0, 0, 0, 0, 0⟩).wellFormed = false ∧
    (Instr.appendSegment cabA ⟨0, 1, 256, 0, 0, 0, 0, 0, 0⟩).wellFormed = false ∧
    (Instr.appendSegment cabA ⟨0, 1, 0, 4294967296, 0, 0, 0, 0, 0⟩).wellFormed = false ∧
    (Instr.appendSegment cabA ⟨0, 1, 0, 0, 2147483648, 0, 0, 0, 0⟩).wellFormed = false ∧
    (Instr.appendSegment cabA ⟨0, 1, 0, 0, 0, -2147483649, 0, 0, 0⟩).wellFormed = false ∧
    (Instr.appendSegment cabA ⟨0, 1, 0, 0, 0, 0, 65536, 0, 0⟩).wellFormed = false ∧
    (Instr.appendSegment cabA ⟨0, 1, 0, 0, 0, 0, 0, 65536, 0⟩).wellFormed = false ∧
    (Instr.appendSegment cabA ⟨0, 1, 0, 0, 0, 0, 0, 0, 4294967296⟩).wellFormed = false := by decide

theorem test_ill_formed_events :
    (Instr.frameClosed (List.replicate 6 true)).wellFormed = false ∧
    (Instr.frameClosed (List.replicate 5 true ++ [false])).wellFormed = true ∧
    (Instr.powerOnReset 8 ⟨⟨true, false, true, true⟩, ⟨true, false, true, true⟩, ⟨true, false, true, true⟩,
      ⟨true, false, true, true⟩⟩).wellFormed = false ∧
    (Instr.conversionCompletion .c1 4096).wellFormed = false ∧ (Instr.beaconTelegram 65536 true).wellFormed = false ∧
    (Instr.presenceTimerExpiry .brake).wellFormed = false := by decide

/-! ### Witnesses -/

theorem witness_StepRunsFrontCommand : (run.setPending [.wake, .lineFree]).pending = .wake :: [.lineFree] := by decide

theorem witness_IdleStepIsOneBitTime :
    let closing := run.setOdo { run.odo with timer := some ⟨10, 2500⟩ }
    let offering := run.setAa { run.aa with offer := some ⟨2000, 500000⟩ }
    (run.pending = [] ∧ run.power = .on ∧ run.odo.timer = some ⟨10, 0⟩ ∧ 0 < 10 * 250) ∧
    (closing.pending = [] ∧ closing.odo.timer = some ⟨10, 2500⟩ ∧ 10 * 250 ≤ 2500) ∧
    (run.setOdo { run.odo with timer := none }).odo.timer = none ∧ State.reset.ct.stab = some ⟨640, 0⟩ ∧
    (run.aa.p2.timer = some ⟨200, 7⟩ ∧ 7 < 200 * 250 ∧ run.aa.p4.timer = none ∧ run.aa.offer = none) ∧
    (offering.pending = [] ∧ offering.aa.offer = some ⟨2000, 500000⟩ ∧ 500000 = 2000 * 250) ∧
    (run.setPower .inReset).power ≠ .on ∧ (run.setPower .inReset).pending = [] := by decide

theorem witness_WakingAnswersNotReady :
    Ready State.reset ∧ State.reset.ct.mode = .waking ∧
      (Instr.setGain cabA 90).asRequest = some (cabA, .setGain 90) ∧ (Request.setGain 90).kind = some .setGain ∧
      Kind.setGain.isRead = false ∧ cabA.dest = .addressed := by decide

theorem witness_HolderRequestsNeedTheHolder :
    ReadyInRun run ∧ (Instr.appendSegment cabB ⟨1, 1, 0, 100, 0, 0, 0, 0, 0⟩).asRequest =
        some (cabB, .appendSegment ⟨1, 1, 0, 100, 0, 0, 0, 0, 0⟩) ∧
      (Request.appendSegment ⟨1, 1, 0, 100, 0, 0, 0, 0, 0⟩).needsHolder = true ∧ cabB.dest = .addressed ∧
      run.aa.auth.heldBy .cabB = false := by decide

theorem witness_RefusedRequestChangesNothing :
    ReadyInRun run ∧ (Instr.claim cabB).asRequest = some (cabB, .claim) ∧ cabB.dest = .addressed ∧
      (ownerTakes .cabB .claim run).result ≠ .ok := by decide

theorem witness_MovingVehicleRefusesStandstillRequests :
    ReadyInRun (moving run) ∧ cabA.dest = .addressed ∧ (moving run).aa.auth.heldBy cabA.src = true ∧
      (moving run).odo.standstill = .moving ∧ chanOf 1 = some .c1 ∧ chanOf 4 = some .c4 := by decide

theorem witness_BroadcastsFilteredByKindAndSource :
    ReadyInRun run ∧ (Instr.hold cabACast 1).asRequest = some (cabACast, .hold 1) ∧ cabACast.dest = .broadcast ∧
      (Instr.claim cabACast).asRequest = some (cabACast, .claim) ∧
      (Instr.speedReference brakeCast 1 0).asRequest = some (brakeCast, .speedReference 1 0) ∧
      Ready State.reset ∧ State.reset.ct.mode = .waking := by decide

theorem witness_FrameWaitsBehindTheServiceOrIsLost :
    let busy := withService (waitingReply cabB .claim) run
    let full := withQueue (List.replicate 3 ⟨cabB, .claim, 0⟩) (waitingReply cabB .claim) run
    Listening busy ∧ busy.li.service.isSome = true ∧ busy.li.queue.length < 3 ∧ Listening full ∧
      full.li.service.isSome = true ∧ full.li.queue.length = 3 ∧
      (Instr.claim cabA).asRequest = some (cabA, .claim) ∧
      ((Instr.hold cabACast 1).asRequest = some (cabACast, .hold 1) ∧ (Request.hold 1).kind = some .hold ∧
        cabACast.src ≠ .brake) ∧
      ((Instr.claim cabACast).asRequest = some (cabACast, .claim) ∧ cabACast.dest = .broadcast) := by decide

theorem witness_ClaimDecidedByFirstRow :
    let free := withAuth .vacant run
    ReadyInRun run ∧ brake.src = .brake ∧ (cabA.src ≠ .brake ∧ run.aa.auth.heldBy .cabA = true) ∧
      (run.aa.auth.heldBy .cabB = false ∧ run.aa.auth ≠ .vacant) ∧ ReadyInRun (moving free) ∧
      (maint.src = .maint ∧ (moving free).aa.auth = .vacant ∧ (moving free).odo.standstill = .moving) ∧
      (ReadyInRun free ∧ free.aa.auth = .vacant ∧ free.odo.standstill = .standstill) := by decide

theorem witness_ReleaseVacatesAuthority :
    Ready run ∧ run.ct.mode = .run ∧ run.aa.auth.heldBy .cabA = true ∧ run.aa.auth.heldBy .cabB = false ∧
      cabACast.dest = .broadcast ∧ Ready State.reset ∧ State.reset.ct.mode = .waking := by decide

theorem witness_OfferAndAccept :
    let offered := (withAuth (.offered .cabA .cabB) run).setAa
      { (withAuth (.offered .cabA .cabB) run).aa with offer := some ⟨2000, 0⟩ }
    ReadyInRun run ∧ run.aa.auth.heldBy .cabA = true ∧ run.odo.standstill = .standstill ∧
      (Master.cabB.address = 2 ∧ Master.cabB ≠ .brake ∧ Master.cabB ≠ .cabA ∧ run.aa.isPresent .cabB = true) ∧
      (∀ n ∈ [Master.cabA, .cabB, .brake, .maint], n.address = 3 → n = .brake ∨ n = .cabA ∨ run.aa.isPresent n = false) ∧
      (∀ n ∈ [Master.cabA, .cabB, .brake, .maint], n.address = 1 → n = .brake ∨ n = .cabA ∨ run.aa.isPresent n = false) ∧
      (∀ n ∈ [Master.cabA, .cabB, .brake, .maint], n.address = 4 → n = .brake ∨ n = .cabA ∨ run.aa.isPresent n = false) ∧
      (∀ n ∈ [Master.cabA, .cabB, .brake, .maint], n.address ≠ 0 ∧ n.address ≠ 255) ∧
      ReadyInRun offered ∧ offered.aa.auth = .offered .cabA .cabB ∧
      (∀ m ∈ [Master.cabA, .cabB, .brake, .maint], run.aa.auth ≠ .offered m .cabB) := by decide

theorem witness_PresenceExpiryByWhoFellSilent :
    let offered := withAuth (.offered .cabA .cabB) run
    run.power = .on ∧ (run.aa.presence .cabA = some ⟨.present, some ⟨200, 0⟩⟩ ∧ run.aa.auth.heldBy .cabA = true) ∧
      (offered.aa.presence .cabB = some ⟨.present, some ⟨200, 7⟩⟩ ∧ Master.cabA ≠ .cabB ∧
        offered.aa.auth = .offered .cabA .cabB) ∧
      (run.aa.presence .cabB = some ⟨.present, some ⟨200, 7⟩⟩ ∧ run.aa.auth.heldBy .cabB = false) ∧
      run.aa.presence .maint = some ⟨.silent, none⟩ ∧ run.aa.presence .brake = none := by decide

theorem witness_OfferExpiryAndAcceptInEitherOrder :
    let offered := (withAuth (.offered .cabA .cabB) run).setAa
      { (withAuth (.offered .cabA .cabB) run).aa with offer := some ⟨2000, 500000⟩ }
    offered.power = .on ∧ offered.aa.auth = .offered .cabA .cabB ∧ offered.aa.offer = some ⟨2000, 500000⟩ ∧
      ReadyInRun offered := by decide

theorem witness_OpenRouteStartsARoute :
    ReadyInRun run ∧ cabA.dest = .addressed ∧ run.aa.auth.heldBy .cabA = true ∧ run.odo.standstill = .standstill ∧
      (leadOf 1 = some .a ∧ leadOf 2 = some .b) ∧ run.rw.lead = .a ∧
      (let f : OpenRouteFields := ⟨2, 999999999, 65535, 999999999, 65535⟩
       f.r0 ≤ 999999999 ∧ f.firstIndex ≤ 65535 ∧ f.rRef ≤ 999999999 ∧ f.u0 ≤ 65535 ∧ ¬f.u0 ≤ run.ct.table.uMax) ∧
      (let f : OpenRouteFields := ⟨1, 0, 0, 0, 3000⟩
       f.u0 ≤ run.ct.table.uMax) ∧
      (ReadyInRun (missing run) ∧ (missing run).aa.auth.heldBy .cabA = true ∧ 2 ≤ (missing run).pfu.miss) ∧
      ViewInv run ∧ ViewInv (missing run) ∧
      ∀ k ∈ Chan.all, (run.ac.get k).state ≠ .tracking ∧ (run.ac.get k).state ≠ .holding := by
  refine ⟨by decide, by decide, by decide, by decide, by decide, by decide, by decide, by decide, by decide,
    view_stands _ (by decide), view_stands _ (by decide), by decide⟩

theorem witness_RouteRequestsRefusedInOrder :
    let full := routed.setRw { routed.rw with segs := List.replicate 48 ⟨0, .straight, 100, none⟩ }
    ReadyInRun run ∧ run.aa.auth.heldBy .cabA = true ∧ run.odo.standstill = .standstill ∧
      (leadOf 0 = none ∧ leadOf 3 = none ∧ 999999999 < 1000000000 ∧ 65535 < 65536) ∧ run.rw.isOpen = false ∧
      ReadyInRun routed ∧ routed.aa.auth.heldBy .cabA = true ∧ (routed.rw.isOpen = true ∧ 2 ≠ routed.rw.next) ∧
      (ReadyInRun full ∧ full.rw.isOpen = true ∧ full.aa.auth.heldBy .cabA = true ∧ 1 = full.rw.next ∧
        48 ≤ full.rw.segs.length) ∧
      (1 = routed.rw.next ∧ routed.rw.segs.length < 48) ∧ (0 < 1 ∧ 4 < 5 ∧ 16 ≤ 16 ∧ 1 % 8 ≠ 0 ∧ 8 % 8 ≠ 1 ∧
        1 % 8 ≠ 3 ∧ 4 % 8 ≠ 5 ∧ 99 < 100 ∧ 500000 < 500001) ∧
      (125000 < (-125001 : Int).natAbs ∧ 800 < 801 ∧ 65535 < 65536 ∧ 100 ≤ 100) ∧
      (let end_ := routed.setRw { routed.rw with front := 999999901 }
       ReadyInRun end_ ∧ 1 = end_.rw.next ∧ 1000000000 < end_.rw.front + 100) := by decide

/-- R20 and R209: a straight record whose presence bits or length are not its kind's is refused, and the same record with them
right is taken. -/
theorem test_presence_bits_of_a_record :
    let answer (f : SegmentFields) := match exec (.appendSegment cabA f) routed with
      | .next t => t.li.service.map fun v => v.result
      | _ => none
    answer ⟨1, 1, 1, 100, 0, 0, 0, 0, 0⟩ = some .badValue ∧ answer ⟨1, 1, 16, 100, 0, 0, 0, 0, 0⟩ = some .badValue ∧
      answer ⟨1, 1, 0, 100, 125001, 0, 0, 0, 0⟩ = some .ok := by decide

theorem witness_AppendJoinsAtTheFront :
    let almost := routed.setRw { routed.rw with segs := List.replicate 47 ⟨0, .straight, 100, none⟩, front := 999500000 }
    ReadyInRun routed ∧ routed.aa.auth.heldBy .cabA = true ∧ routed.rw.isOpen = true ∧ ReadyInRun almost ∧
      (1 = almost.rw.next ∧ almost.rw.segs.length < 48 ∧ almost.rw.front + 500000 ≤ 1000000000) ∧
      (let f : SegmentFields := ⟨1, 1, 0, 100, 0, 0, 0, 0, 0⟩
       f.index = routed.rw.next ∧ 100 ≤ f.length ∧ f.marker % 8 = 0 ∧ f.marker < 8) ∧
      (let f : SegmentFields := ⟨1, 2, 9, 500000, -125000, 0, 0, 1, 499999⟩
       f.marker % 8 = 1 ∧ f.kStart.natAbs ≤ 125000 ∧ 8 ≤ f.marker ∧ f.marker < 16 ∧ f.beaconOffset < f.length) ∧
      (let f : SegmentFields := ⟨1, 3, 11, 100, 125000, -125000, 0, 65535, 0⟩
       f.marker % 8 = 3 ∧ f.kStart.natAbs ≤ 125000 ∧ f.kEnd.natAbs ≤ 125000 ∧ 8 ≤ f.marker) ∧
      (let f : SegmentFields := ⟨1, 4, 5, 100, 125000, 0, 800, 0, 0⟩
       f.marker % 8 = 5 ∧ f.kStart.natAbs ≤ 125000 ∧ f.cap ≤ 800 ∧ f.marker < 8) := by decide

theorem witness_CloseRouteEndsTheRoute :
    ReadyInRun run ∧ run.aa.auth.heldBy .cabA = true ∧ run.rw.isOpen = false ∧ ReadyInRun steering ∧
      steering.aa.auth.heldBy .cabA = true ∧ steering.rw.isOpen = true ∧ steering.sv.routeOpen = true ∧
      (steering.ac.get .c1).state.released = true ∧ ViewInv steering ∧ ReadyInRun (missing steering) ∧
      ViewInv (missing steering) ∧ ofOpenRoute (missing steering) (recordOf .beaconMissed .none true) = true ∧
      ofOpenRoute (missing steering) (recordOf .positionConflict .none true) = false := by
  exact ⟨by decide, by decide, by decide, by decide, by decide, by decide, by decide, by decide,
    view_stands _ (by decide), by decide, view_stands _ (by decide), by decide, by decide⟩

theorem witness_PlaceSetsPositionAndUncertainty :
    ReadyInRun routed ∧ routed.aa.auth.heldBy .cabA = true ∧ routed.rw.isOpen = true ∧ 999999999 ≤ 999999999 ∧
      65535 ≤ 65535 ∧ ¬65535 ≤ routed.ct.table.uMax ∧ 3000 ≤ routed.ct.table.uMax ∧
      (∀ k ∈ Chan.all, (routed.ac.get k).state ≠ .tracking ∧ (routed.ac.get k).state ≠ .holding) ∧ ViewInv routed := by
  exact ⟨by decide, by decide, by decide, by decide, by decide, by decide, by decide, by decide,
    view_stands _ (by decide)⟩

theorem witness_UnlockReleasesQualifyingChannels :
    let drifted := routed.setPfu { routed.pfu with conf := .drifted }
    let latched := routed.setSv { routed.sv with latch := true }
    let early := withChannel .c2 (channelIn .locked .released) routed
    let atOnce := early.setCt { early.ct with table := { early.ct.table with settleFrames := 0 } }
    (ReadyInRun run ∧ run.aa.auth.heldBy .cabA = true ∧ run.rw.isOpen = false) ∧
      (ReadyInRun drifted ∧ drifted.rw.isOpen = true ∧ drifted.pfu.conf ≠ .placed) ∧
      (ReadyInRun latched ∧ latched.pfu.conf = .placed ∧ latched.sv.latch = true) ∧
      (ReadyInRun steering ∧ steering.pfu.conf = .placed ∧ steering.sv.latch = false ∧
        ∀ k ∈ Chan.all, qualifies steering k = false) ∧
      (ReadyInRun routed ∧ routed.sv.latch = false ∧ qualifies routed .c1 = true ∧
        (routed.ac.get .c1).contact ≠ .released) ∧
      (qualifies early .c2 = true ∧ (early.ac.get .c2).contact = .released ∧ early.ct.table.settleFrames ≠ 0) ∧
      (qualifies atOnce .c2 = true ∧ atOnce.ct.table.settleFrames = 0) := by decide

theorem witness_CentreAllCentresReleasedChannels :
    ReadyInRun steering ∧ steering.aa.auth.heldBy .cabA = true ∧ (steering.ac.get .c4).state.released = true ∧
      ViewInv steering := by
  exact ⟨by decide, by decide, by decide, view_stands _ (by decide)⟩

theorem witness_CalibrateRehomesOneChannel :
    ReadyInRun run ∧ run.aa.auth.heldBy .cabA = true ∧ chanOf 0 = none ∧ chanOf 5 = none ∧
      (chanOf 1 = some .c1 ∧ run.odo.standstill = .standstill ∧ fitted run .c1 = true ∧ (run.ac.get .c1).state = .locked) ∧
      (ReadyInRun (runWith .c4 .unhomed .engaged) ∧ chanOf 4 = some .c4 ∧
        ((runWith .c4 .unhomed .engaged).ac.get .c4).state ≠ .locked) := by decide

theorem witness_HoldResumeAndGain :
    ReadyInRun (runWith .c3 .holding .released) ∧ (runWith .c3 .holding .released).aa.auth.heldBy .cabA = true ∧
      ((runWith .c3 .holding .released).ac.get .c3).state = .holding ∧ 0 ≠ 1 ∧ 3 ≠ 2 := by decide

theorem witness_SpeedReferenceFromBrakeController :
    Ready run ∧ run.ct.mode = .run ∧ brake.src = .brake ∧ brake.dest = .addressed ∧ brakeCast.dest = .broadcast ∧
      cabA.src ≠ .brake ∧ cabACast.dest = .broadcast ∧ Ready State.reset ∧ State.reset.ct.mode = .waking := by decide

theorem witness_SetConfigStoresOneValue :
    ReadyInRun run ∧ run.aa.auth.heldBy .cabA = true ∧ run.odo.standstill = .standstill ∧
      (paramRef 0 0 = none ∧ paramRef 25 0 = none ∧ paramRef 1 1 = none ∧ paramRef 32 0 = none) ∧
      (paramRef 36 4 = some (.chan .slew .c4) ∧ (ParamRef.chan .slew .c4).range = (1, 100) ∧ (0 : Int) < 1 ∧
        (100 : Int) < 101) ∧
      ((ParamRef.chan .slew .c4).admits 100 = true ∧ (run.ac.get .c4).state = .locked ∧
        ∀ k ∈ Chan.all, ((ParamRef.chan .slew .c4).set run.ct.table 100).fitted k = run.ct.table.fitted k) ∧
      (let standing := steering.setOdo run.odo
       ReadyInRun standing ∧ standing.odo.standstill = .standstill ∧ (ParamRef.chan .slew .c4).admits 1 = true ∧
        (standing.ac.get .c4).state ≠ .locked ∧ (standing.ac.get .c4).state ≠ .absent ∧
        paramRef 9 0 = some (.part .lockTime) ∧ fitted standing .c1 = true ∧ (standing.ac.get .c1).state = .tracking ∧
        ((ParamRef.part .fitting).set standing.ct.table 2).fitted .c3 = false) ∧
      (ParamRef.part .lockTime ≠ .part .fitting ∧ ∀ k ∈ Chan.all, (run.ac.get k).state = .locked) := by decide

theorem witness_FittingChangeMakesAbsentOrHomes :
    let single := run.setCt { run.ct with table := (ParamRef.part .fitting).set run.ct.table 2 }
    ReadyInRun run ∧ run.aa.auth.heldBy .cabA = true ∧ run.odo.standstill = .standstill ∧
      (paramRef 8 0 = some (.part .fitting) ∧ (ParamRef.part .fitting).admits 2 = true ∧
        run.ct.table.fitted .c3 = true ∧ ((ParamRef.part .fitting).set run.ct.table 2).fitted .c3 = false ∧
        ∀ k ∈ Chan.all, (run.ac.get k).state = .locked) ∧
      (ReadyInRun single ∧ single.ct.table.fitted .c3 = false ∧ (ParamRef.part .fitting).admits 1 = true ∧
        ((ParamRef.part .fitting).set single.ct.table 1).fitted .c3 = true) ∧
      (paramRef 32 2 = some (.chan .enable .c2) ∧ (ParamRef.chan .enable .c2).admits 0 = true) ∧
      ViewInv run ∧ TargetInv run ∧
      (ReadyInRun faultedRun ∧ faultedRun.aa.auth.heldBy .cabA = true ∧ faultedRun.odo.standstill = .standstill ∧
        (faultedRun.ac.get .c3).state = .faulted .lockEngaged ∧ (faultedRun.ac.get .c4).state = .locked) ∧
      ViewInv faultedRun ∧ TargetInv faultedRun :=
  ⟨by decide, by decide, by decide, by decide, by decide, by decide, view_stands _ (by decide),
    targets_stand _ (by decide), by decide, faultedRun_view, targets_stand _ (by decide)⟩

/-- R122: a lowered lock time is met at the lock timer's next increment: LOCK_FAIL by itself, before a sample has taken the
lower limit, finds no expiry. -/
theorem test_lowered_lock_time_waits_for_the_sample :
    let timed := withChannel .c3 { channelIn .holding .between with lockT := some 7 } run
    let lowered := timed.setCt { timed.ct with table := (ParamRef.part .lockTime).set timed.ct.table 5 }
    lowered.ct.table.lockTime = 5 ∧
      (match exec (.lockFail .c3) lowered with | .next t => t.ac.c3.state | _ => .absent) = .holding := by decide

theorem witness_SleepAndRestartWaitForEndOfService :
    ReadyInRun run ∧ run.aa.auth.heldBy .cabA = true ∧ run.odo.standstill = .standstill ∧
      (∀ k ∈ Chan.all, fitted run k = true → (run.ac.get k).state = .locked) ∧
      (let other := runWith .c2 (.faulted .lockAwaited) .between
       ReadyInRun other ∧ fitted other .c2 = true ∧ (other.ac.get .c2).state ≠ .locked ∧
        (other.ac.get .c2).state ≠ .faulted .lockEngaged) := by decide

/-- A state built by its parts meets every invariant once they hold; the parameters' defaults lie in their ranges. -/
theorem defaults_in_range (s : State) (h : s.ct.table = ConfigTable.default) (hg : s.ct.gain ≤ 100) : ConfigInv s := by
  refine ⟨fun p => ?_, hg⟩
  rw [h]
  rcases p with p | ⟨p, k⟩
  · cases p <;> decide
  · cases p <;> cases k <;> decide

theorem witness_ClearFaultsRemovesWhatHasEnded :
    Inv faultedRun ∧ ReadyInRun faultedRun ∧ faultedRun.aa.auth.heldBy .cabA = true ∧
      faultedRun.odo.standstill = .standstill ∧ (faultedRun.ac.get .c3).state = .faulted .lockEngaged := by
  refine ⟨⟨?_, ?_, ?_, pairing_stands _ (by decide), targets_stand _ (by decide), defaults_in_range _ rfl (by decide),
    in_range _ (by decide), faultedRun_view, ?_⟩, by decide⟩
  · exact ⟨by decide, fun g (hg : g ∈ []) => absurd hg List.not_mem_nil, by decide, by decide, by decide, trivial,
      by decide, by decide⟩
  · exact ⟨by decide, by decide, by decide, by decide⟩
  · exact ⟨⟨by decide, rfl⟩, by decide, by decide⟩
  · intro _; decide

theorem witness_ReadsAreTakenAtReplyStart :
    let read (req : Request) (age : Nat) := withReplyDue { waitingReply cabB req with age := age } routed
    let absent := routed.setCt { routed.ct with table := (ParamRef.part .fitting).set routed.ct.table 2 }
    Ready State.reset ∧ State.reset.ct.mode ≠ .sleep ∧ Ready run ∧ run.ct.mode = .run ∧ cabB.dest = .addressed ∧
      ((read .readStatus 20).power = .on ∧ (read .readStatus 20).li.line = .free ∧
        20 ≤ (read .readStatus 20).li.ones ∧ 20 < 500 ∧
        (read .readStatus 20).li.service = some { waitingReply cabB .readStatus with age := 20 }) ∧
      ((read .readPosition 499).li.service = some { waitingReply cabB .readPosition with age := 499 } ∧ 499 < 500) ∧
      (chanOf 4 = some .c4 ∧ fitted routed .c4 = true ∧ fitted absent .c4 = false) ∧
      (routed.rw.segs[1]? = some ⟨0, .spiral 0 62500, 12000, some ⟨3071, 2500, .pending⟩⟩ ∧ routed.rw.segs.length ≤ 2) ∧
      faultedRun.sv.faults.drop 1 = [recordOf .holderSilent .none true] := by decide

theorem witness_ReplyStartTakesTheSummary :
    let ready := withReplyDue { waitingReply cabA .readStatus with age := 499 } run
    let sending := withService (sendingReply cabA .claim) run
    let early := ready.setLi { ready.li with ones := 19 }
    (ready.power = .on ∧ ready.li.line = .free ∧ 20 ≤ ready.li.ones ∧
        ready.li.service = some { waitingReply cabA .readStatus with age := 499 } ∧ 499 < 500) ∧
      (waitingReply cabA .readStatus).reply = none ∧ run.li.service = none ∧
      sending.li.service = some (sendingReply cabA .claim) ∧ (sendingReply cabA .claim).reply ≠ none ∧
      500 ≤ (lateReply cabA .claim).age ∧ run.li.line = .busy ∧ early.li.ones < 20 ∧
      Request.claim.kind = some .claim ∧ Kind.claim.isRead = false := by decide

theorem witness_EndOfServiceDispatchesTheNextFrame :
    let sending (q : List QFrame) := withQueue q (sendingReply cabA .claim) run
    let late (q : List QFrame) := withQueue q (lateReply cabA .claim) run
    (∀ q ∈ [[], [⟨cabB, .claim, 499⟩], [⟨cabB, .claim, 500⟩], [⟨cabACast, .hold 1, 12⟩]],
      (sending q).power = .on ∧ (sending q).li.service = some (sendingReply cabA .claim) ∧
        (sendingReply cabA .claim).reply ≠ none ∧ (sending q).ct.pendingMode = .none ∧ (sending q).li.queue = q ∧
        (late q).li.service = some (lateReply cabA .claim) ∧ (lateReply cabA .claim).reply = none ∧
        500 ≤ (lateReply cabA .claim).age ∧ (late q).ct.pendingMode = .none ∧ (late q).li.queue = q) ∧
      (cabB.dest = .addressed ∧ 499 < 500 ∧ 500 ≤ 500) ∧
      (cabACast.dest = .broadcast ∧ (judge .cabA (.hold 1) (sending [])).state.ct.pendingMode = .none ∧
        (judge .cabA (.hold 1) (late [])).state.ct.pendingMode = .none) ∧
      (waitingReply cabA .claim).age < 500 := by decide

theorem witness_ReceiverFollowsTheLine :
    let seen (n : Nat) := run.setLi { run.li with ones := n }
    let inState (r : Receiver) (inFrame : Bool) := run.setLi { run.li with receiver := r, inFrame := inFrame }
    run.power = .on ∧ run.li.receiver = .hunting ∧ (inState .receiving true).li.receiver = .receiving ∧
      (∀ r ∈ [Receiver.waiting, .stopped, .hunting], ∀ inFrame ∈ [true, false],
        (inState r inFrame).li.receiver = r ∧ (inState r inFrame).li.inFrame = inFrame ∧
          (inState r inFrame).ct.mode ≠ .sleep ∧ (inState r inFrame).power = .on) ∧
      (Instr.claim cabA).asRequest = some (cabA, .claim) ∧
      ((seen 16).li.receiver = .hunting ∧ (seen 16).li.inFrame = false ∧ 16 ≤ (seen 16).li.ones) ∧
      (seen 15).li.ones < 16 ∧ [true] ≠ [] ∧
      ((inMode .sleep (inState .stopped false)).li.receiver = .stopped ∧
        (inMode .sleep (inState .stopped false)).ct.mode = .sleep) := by decide

/-- R167 and R180: the frame that bears the wake's edge keeps the line BUSY however long its flag is past; after its closing
flag and 16 bit times of ones the line is FREE and the wait over. -/
theorem test_wake_waits_for_the_closing_flag :
    let after (is : List Instr) (s : State) : State :=
      is.foldl (fun s i => match exec i s with | .next t => t | _ => s) s
    let ticks (s : State) : State := s.setLi { s.li with ones := if s.li.seesOnes then 16 else s.li.ones }
    let inside := ticks (after [.wake, .openingFlag] (inMode .sleep run))
    let closed := ticks (after [.frameClosed [true]] inside)
    (after [.lineFree] inside).li.line = .busy ∧ (after [.lineFree] closed).li.line = .free ∧
      (after [.lineFree] closed).li.receiver = .hunting := by decide

/-- R167: another sender's frame that begins during this part's reply keeps the line BUSY after the reply's end, until its
abort or its closing flag and 16 bit times of ones. -/
theorem test_frame_over_the_reply_keeps_the_line_busy :
    let after (is : List Instr) (s : State) : State :=
      is.foldl (fun s i => match exec i s with | .next t => t | _ => s) s
    let ticks (s : State) : State := s.setLi { s.li with ones := if s.li.seesOnes then 16 else s.li.ones }
    let replied := after [.replyStart, .openingFlag, .endOfService] (withReplyDue (waitingReply cabA .claim) run)
    (after [.lineFree] (ticks replied)).li.line = .busy ∧
      (after [.lineFree] (ticks (after [.frameAbort] replied))).li.line = .free := by decide

/-- R164, R167: two frames that share a flag, seen by a receiver that waits: the second's closing flag leaves no frame on the
line, so that the line is FREE 16 bit times of ones later and the wait over. -/
theorem test_frames_that_share_a_flag :
    let after (is : List Instr) (s : State) : State :=
      is.foldl (fun s i => match exec i s with | .next t => t | _ => s) s
    let ticks (s : State) : State := s.setLi { s.li with ones := if s.li.seesOnes then 16 else s.li.ones }
    let passed := after [.wake, .openingFlag, .frameClosed [true], .frameClosed [false, true]] (inMode .sleep run)
    (after [.lineFree] passed).li.line = .busy ∧ (after [.lineFree] (ticks passed)).li.line = .free := by decide

/-- R167: after a flag that two frames share, a zero of the second's content starts the count of ones again, and LINE_FREE is
no event. -/
theorem test_content_after_a_shared_flag_keeps_the_line_busy (n : Nat) (h : Config.lineCarriesOne n = false) :
    let later := run.setLi ({ run.li with ones := 20, bitTime := n } : Li).tick
    later.li.ones = 0 ∧ lineFree later = later := by
  have h0 : (run.setLi ({ run.li with ones := 20, bitTime := n } : Li).tick).li.ones = 0 := by
    rw [State.setLi_li, tick_ones, h]; rfl
  exact ⟨h0, lineFree_of_few_ones (by rw [h0]; decide)⟩

/-- A part receiving the frame of a CLAIM by cab A: its five bytes and check, whole; and the same with its last bit turned. -/
theorem witness_FaultyFramesAreDiscarded :
    let receiving := run.setLi { run.li with receiver := .receiving, inFrame := true }
    let good := (requestFrame 16 cabA .claim).content
    receiving.power = .on ∧ receiving.li.receiver = .receiving ∧
      unstuff (stuff (bitsOfBytes good)) = some (bitsOfBytes good) ∧ bytesOfBits (bitsOfBytes good) = some good ∧
      good.length = 5 ∧ good.drop 3 = checkBytes (good.take 3) ∧
      (good.set 4 0#8).drop 3 ≠ checkBytes ((good.set 4 0#8).take 3) ∧
      unstuff [false] = some [false] ∧ [false].length % 8 ≠ 0 ∧
      unstuff (List.replicate 32 false) = some (List.replicate 32 false) ∧
      (List.replicate 32 false).length < 5 * 8 ∧ 37 * 8 < (List.replicate 304 false).length ∧
      unstuff (List.replicate 304 false) = some (List.replicate 304 false) ∧
      [false] ++ List.replicate 6 true ++ [] = [false, true, true, true, true, true, true] ∧
      receiving.li.service = none ∧ receiving.li.queue = [] ∧ receiving.li.address = 16 ∧
      (∀ f ∈ [RawFrame.mk 17 1 1 [], ⟨16, 5, 1, []⟩, ⟨16, 2, 99, [0#8]⟩, ⟨16, 1, 3, []⟩, ⟨16, 3, 32, [7#8]⟩,
          ⟨31, 1, 20, []⟩, ⟨31, 4, 0, []⟩],
        unstuff f.lineBits = some (bitsOfBytes f.content) ∧ bytesOfBits (bitsOfBytes f.content) = some f.content ∧
          5 ≤ f.content.length ∧ f.content.length ≤ 37 ∧
          f.content.drop (f.content.length - 2) = checkBytes (f.content.take (f.content.length - 2))) ∧
      ((receiving.setCt { receiving.ct with mode := .waking }).ct.mode = .waking ∧ 3 < 32 ∧ 32 ≤ 32) := by decide

theorem witness_RequestPayloadSpellsTheRequest :
    (Instr.openRoute cabA ⟨255, 4294967295, 65535, 4294967295, 65535⟩).wellFormed = true ∧
      (Instr.openRoute cabA ⟨255, 4294967295, 65535, 4294967295, 65535⟩).asRequest =
        some (cabA, .openRoute ⟨255, 4294967295, 65535, 4294967295, 65535⟩) := by decide

theorem witness_FrameOnTheLineIsItsRequest :
    (Instr.setConfig cabA 255 255 (-2147483648)).wellFormed = true ∧
      (Instr.setConfig cabA 255 255 (-2147483648)).asRequest = some (cabA, .setConfig 255 255 (-2147483648)) ∧
      (run.setLi { run.li with receiver := .receiving, address := 23 }).li.receiver = .receiving ∧
      16 ≤ run.li.address ∧ (23 : Nat) ≤ 23 := by decide

theorem witness_SleepBeginsAtTheEndOfItsService :
    let asked (v : Service) := (withService v faultedRun).setCt { run.ct with pendingMode := .sleep }
    (∀ v ∈ [sendingReply cabA .sleep, lateReply cabA .sleep],
      (asked v).power = .on ∧ (asked v).li.service = some v ∧ (asked v).ct.pendingMode = .sleep ∧
        fitted (asked v) .c3 = true ∧ ((asked v).ac.get .c3).state = .faulted .lockEngaged) ∧
      (sendingReply cabA .sleep).reply ≠ none ∧
      ((lateReply cabA .sleep).reply = none ∧ 500 ≤ (lateReply cabA .sleep).age) ∧
      (∀ v, ViewInv (asked v)) ∧
      ofFaultedChannel (asked (lateReply cabA .sleep)) (recordOf .trackingError (.chan .c3) true) = true ∧
      ofFaultedChannel (asked (lateReply cabA .sleep)) (recordOf .holderSilent .none true) = false := by
  exact ⟨by decide, by decide, by decide, fun _ => faultedRun_view, by decide, by decide⟩

theorem witness_RestartTakesEffectAtTheEndOfItsService :
    let asked (q : List QFrame) (v : Service) := (withQueue q v faultedRun).setCt { run.ct with pendingMode := .restart }
    (∀ q ∈ [[], [⟨cabB, .claim, 499⟩, ⟨cabACast, .hold 1, 3⟩]],
      ∀ v ∈ [sendingReply cabA .restart, lateReply cabA .restart],
        (asked q v).power = .on ∧ (asked q v).li.service = some v ∧ (asked q v).ct.pendingMode = .restart ∧
          (asked q v).li.queue = q ∧ (asked q v).ct.mode = .run) ∧
      (sendingReply cabA .restart).reply ≠ none ∧
      ((lateReply cabA .restart).reply = none ∧ 500 ≤ (lateReply cabA .restart).age) ∧ ∀ q v, ViewInv (asked q v) := by
  exact ⟨by decide, by decide, by decide, fun _ _ => faultedRun_view⟩

theorem witness_WakingBeginsAndEnds :
    (inMode .sleep run).power = .on ∧ (inMode .sleep run).ct.mode = .sleep ∧ run.ct.mode ≠ .sleep ∧
      State.reset.power = .on ∧ State.reset.ct.mode = .waking ∧ State.reset.ct.stab = some ⟨640, 0⟩ ∧
      run.ct.mode ≠ .waking := by decide

theorem witness_ResetAndSupply :
    run.power ≠ .noSupply ∧ (run.setPower .noSupply).power = .noSupply ∧ (run.setPower .inReset).power ≠ .on ∧
      Instr.wake ≠ .resetAsserted ∧ Instr.wake ≠ .supplyLoss := by decide

theorem witness_EdgesCountAndPeriodsApply :
    run.power = .on ∧ run.ct.mode ≠ .sleep ∧ (inMode .sleep run).ct.mode = .sleep ∧
      (steering.ac.get .c1).drive = .energised 20 (some 30) ∧ (run.ac.get .c1).drive = .off := by decide

/-- One frame for each case of R59, at the edges of its conditions. -/
theorem witness_MotionByTheFirstCase :
    let ref : SpeedRef := ⟨1000, true, false, false, false, 0, false⟩
    let slid : SpeedRef := { ref with slide := true }
    let i : FrameInput := ⟨⟨127, -127⟩, ⟨.working, .working⟩, some ref, ⟨5890, 5890⟩, 10⟩
    (({ i with fresh := some slid }).fresh = some slid ∧ slid.slide = true) ∧
      (i.tacho.t1 = .working ∧ i.tacho.t2 = .working ∧ ¬127 < i.count.t1.natAbs ∧ ¬127 < i.count.t2.natAbs) ∧
      ((5890 * 7 - 5890 * 5 : Int).natAbs ≤ 2 * max 5890 5890 + max (5890 * 7) (5890 * 5) / 16) ∧
      ¬((5890 * 7 - 5890 * 4 : Int).natAbs ≤ 2 * max 5890 5890 + max (5890 * 7) (5890 * 4) / 16) ∧
      (127 < (128 : Int).natAbs ∧ 127 < (-128 : Int).natAbs) ∧ TachoState.failed ≠ .working := by decide

theorem witness_FrameExpiryClosesTheFrame :
    let quiet := run.setOdo { run.odo with standstill := .moving, quiet := 490 }
    let offered := (withAuth (.offered .cabA .cabB) run).setOdo { run.odo with acc := ⟨1, 1⟩ }
    let failed := run.setOdo { run.odo with tacho := ⟨.failed, .failed⟩, ref := some ⟨0, false, false, false, false, 10000, false⟩ }
    let stale := run.setOdo { run.odo with ref := some ⟨0, false, false, false, false, 0, true⟩ }
    run.power = .on ∧ run.odo.timer = some ⟨10, 0⟩ ∧ (run.setOdo { run.odo with timer := none }).odo.timer = none ∧
      (quiet.odo.tacho.t1 = .working ∧ quiet.odo.acc = ⟨0, 0⟩ ∧ quiet.odo.ref = none ∧
        run.ct.table.standstillTime ≤ min (490 + 10) 2000) ∧
      (offered.aa.auth = .offered .cabA .cabB ∧ offered.odo.standstill = .standstill ∧ offered.odo.acc.t1 ≠ 0) ∧
      (failed.odo.tacho.t1 ≠ .working ∧ failed.odo.tacho.t2 ≠ .working ∧ ¬50 * 250 < 10000 + (10 * 250 - 0)) ∧
      (stale.odo.ref = some ⟨0, false, false, false, false, 0, true⟩ ∧ stale.odo.timer = some ⟨10, 0⟩) ∧
      ((quiet.setOdo { quiet.odo with quiet := 500 }).odo.quiet = 500 ∧ run.ct.table.standstillTime ≤ 500) := by decide

/-- R58: a reference judged stale stays stale when the hold time is raised; a new SPEED_REFERENCE is fresh. -/
theorem test_stale_reference_stays_stale :
    let late := run.setOdo { run.odo with ref := some ⟨1000, true, false, false, false, 12000, false⟩ }
    let raised (s : State) : State := s.setCt { s.ct with table := (ParamRef.part .refHold).set s.ct.table 200 }
    let stale (o : Host.Outcome State Fault Refusal) := match o with
      | .next t => t.odo.ref.map fun r => r.stale
      | _ => none
    let judged := match exec .frameTimerExpiry late with | .next t => raised t | _ => late
    stale (exec .frameTimerExpiry late) = some true ∧ stale (exec .frameTimerExpiry judged) = some true ∧
      stale (exec .frameTimerExpiry (raised late)) = some false ∧
      stale (exec (.speedReference brake 1000 1) judged) = some false := by decide

theorem witness_TachosAreWatched :
    let watched := run.setOdo { run.odo with acc := ⟨0, 3⟩, failure := ⟨24, 0⟩, disagree := 49, agree := 49 }
    let one := run.setOdo { run.odo with tacho := ⟨.working, .failed⟩, failure := ⟨23, 0⟩,
                                         ref := some ⟨1767, false, false, false, false, 0, false⟩ }
    let standing := run.setOdo { run.odo with acc := ⟨0, 40⟩, disagree := 50, disagreeTold := true, agree := 50 }
    watched.power = .on ∧ watched.odo.timer = some ⟨10, 0⟩ ∧ RangeInv watched ∧ RangeInv one ∧ RangeInv standing ∧
      (watched.odo.acc.get .t1 = 0 ∧ watched.odo.tacho.get .t2 = .working ∧ 3 ≤ (watched.odo.acc.get .t2).natAbs ∧
        watched.odo.failure.get .t1 = 24 ∧ watched.odo.tacho.get .t1 = .working ∧ watched.odo.disagree = 49 ∧
        watched.odo.agree = 49 ∧ watched.sv.faults = []) ∧
      (one.odo.tacho.get .t2 = .failed ∧ one.odo.failure.get .t1 < 24 ∧ 3 * 5890 ≤ ((1767 : Int) * 10).natAbs) ∧
      (standing.odo.timer = some ⟨10, 0⟩ ∧ standing.odo.disagree = 50 ∧ standing.odo.agree = 50 ∧
        FrameInput.case ⟨standing.odo.acc, standing.odo.tacho, none, standing.ct.table.lambda, 10⟩ = .c3) ∧
      FrameInput.case ⟨⟨5, 5⟩, watched.odo.tacho, none, watched.ct.table.lambda, 10⟩ = .c2 ∧
      (run.odo.tacho.get .t1 = .working ∧ run.odo.agree < 50) := by
  refine ⟨by decide, by decide, in_range _ (by decide), in_range _ (by decide), in_range _ (by decide), by decide,
    by decide, by decide, by decide, by decide⟩

theorem witness_FaultReportsByTheFiveCases :
    let old := recordOf .lockFail (.chan .c1) false
    (old ∈ (withFaults [old] run).sv.faults ∧ old.code = .lockFail ∧ old.active = false) ∧
      (recordOf .lockFail (.chan .c1) true).active = true ∧
      ((∀ f ∈ run.sv.faults, ¬(f.code = .lockFail ∧ f.subject = .chan .c1)) ∧ run.sv.faults.length < 16) ∧
      ((∀ f ∈ sixteen true, ¬(f.code = .beaconMissed ∧ f.subject = .none)) ∧ 16 ≤ (sixteen true).length ∧
        ∀ f ∈ sixteen true, f.active = true) ∧
      (16 ≤ (sixteen false).length ∧ sixteen false = [] ++ recordOf .lockStuck (.chan .c1) false :: (sixteen false).tail) := by
  decide

theorem witness_FrameNumberCountsExpiriesAndStampsFaults :
    (run.setPending [.frameTimerExpiry]).pending = .frameTimerExpiry :: [] ∧ run.odo.timer ≠ none ∧
      (match step (run.setPending [.frameTimerExpiry]) with
        | .next t => t.odo.frameNo
        | _ => 0) = 1 ∧
      (match step ((run.setOdo { run.odo with frameNo := 65535 }).setPending [.frameTimerExpiry]) with
        | .next t => t.odo.frameNo
        | _ => 1) = 0 := by decide

theorem witness_CorrectionsAndMarksArrive :
    (withPath { Path.empty with corrections := [⟨-26, true⟩] } run).path.corrections = [⟨-26, true⟩] ∧
      (withPath { Path.empty with corrections := [⟨-26, false⟩] } run).path.corrections = [⟨-26, false⟩] ∧
      (withPath { Path.empty with marks := [⟨⟨0, .matched⟩, true⟩] } routed).path.marks = [⟨⟨0, .matched⟩, true⟩] ∧
      (withPath { Path.empty with marks := [⟨⟨0, .matched⟩, false⟩] } routed).path.marks = [⟨⟨0, .matched⟩, false⟩] ∧
      run.path.corrections = [] ∧ run.path.marks = [] ∧ run.power = .on ∧ routed.rw.segs[1]? = some
        ⟨0, .spiral 0 62500, 12000, some ⟨3071, 2500, .pending⟩⟩ := by decide

/-- A sample at 22,001 mm passes the beacon at 20,500 mm by one mm more than the half-width of 1,500 mm. -/
theorem witness_SampleAtPositionFix :
    let sample : Sample := ⟨22001000, 0, .agreed, .moving, false⟩
    let arriving (miss : Nat) (told : Bool) :=
      withPath { Path.empty with atPfu := [sample] } (routed.setPfu { routed.pfu with miss := miss, missTold := told })
    let passing := arriving 1 false
    passing.power = .on ∧ RangeInv passing ∧ RangeInv (arriving 2 true) ∧ RangeInv (arriving 0 false) ∧
      (passing.path.atPfu = sample :: [] ∧ passing.pfu.conf ≠ .unplaced ∧ passing.pfu.miss < 2) ∧
      (beaconsSeen passing = [⟨0, 3071, 20500, .pending⟩] ∧
        (20500 : Int) + ((1000000 / 1000 + 500 : Nat) : Int) < 22001 ∧ 2 ≤ passing.pfu.miss + 1) ∧
      ((withPath { Path.empty with atPfu := [sample] } run).pfu.conf = .unplaced ∧ run.path.atPfu = []) ∧
      (2 ≤ (arriving 2 true).pfu.miss ∧ (arriving 0 false).pfu.miss + 1 < 2 ∧ passing.sv.faults = []) := by
  refine ⟨by decide, in_range _ (by decide), in_range _ (by decide), in_range _ (by decide), by decide, by decide,
    by decide, by decide⟩

/-- The reader stands 1,500 mm before the beacon, at the edge of the half-width; then a repeat at 5,000 mm, an unknown ID,
and a conflict. -/
theorem witness_BeaconTelegramMatchesRepeatsOrConflicts :
    let at_ (r : Nat) (st : BeaconStatus) : State := { routed with
      odo := { routed.odo with r := r * 1000 }
      rw := { routed.rw with segs := [{ index := 65535, geo := .straight, length := 8000, beacon := none },
        { index := 0, geo := .spiral 0 62500, length := 12000, beacon := some ⟨3071, 2500, st⟩ }] } }
    (at_ 19000 .pending).power = .on ∧ (at_ 19000 .pending).pfu.conf ≠ .unplaced ∧
      (⟨0, 3071, 20500, .pending⟩ ∈ beaconsSeen (at_ 19000 .pending) ∧
        ((20500 : Int) - 19000).natAbs ≤ 1000000 / 1000 + 500) ∧
      (⟨0, 3071, 20500, .matched⟩ ∈ beaconsSeen (at_ 25500 .matched) ∧ ((20500 : Int) - 25500).natAbs ≤ 5000) ∧
      (∀ b ∈ beaconsSeen (at_ 19000 .pending), b.id ≠ 3072) ∧
      (¬((20500 : Int) - 18999).natAbs ≤ 1000000 / 1000 + 500 ∧ ∃ b ∈ beaconsSeen (at_ 18999 .pending), b.id = 3071) := by
  decide

theorem witness_SampleAtRouteWindow :
    let sample : Sample := ⟨39100000, 41230, .agreed, .moving, false⟩
    let arriving := withPath { Path.empty with atRw := [sample] } routed
    arriving.power = .on ∧ arriving.path.atRw = sample :: [] ∧ arriving.rw.isOpen = true ∧
      (withPath { Path.empty with atRw := [sample] } run).rw.isOpen = false ∧ run.path.atRw = [] ∧
      (match exec .sampleAtRw arriving with
        | .next t => (t.rw.rear, t.rw.segs.length)
        | _ => (0, 0)) = (18000, 1) := by decide

/-- A hand-over with both points covered, one short of the horizon, one with no answer, and one for no channel. -/
def handOver : HandOver :=
  ⟨⟨15000000, 41230, .agreed, .moving, false⟩,
    ⟨.formed ⟨19100, 19264, some ⟨18000, 12000, .spiral 0 62500⟩, some ⟨18000, 12000, .spiral 0 62500⟩⟩,
     .formed ⟨19300, 30000, some ⟨18000, 12000, .junction 125000 150⟩, none⟩,
     .formed ⟨9000, 9100, none, none⟩, .notFitted⟩⟩

/-- `routed` with the hand-over arriving, a channel in a given record and a hold mode. -/
def delivering (ch : Channel) (hold : HoldMode) : State :=
  withPath { Path.empty with atSs := [handOver] }
    ((withChannel .c1 ch routed).setSv { routed.sv with hold := hold })

/-- A channel in every state and phase whose timers a delivery counts or leaves, none of them at its limit. -/
def running : List Channel :=
  [channelIn .unhomed .engaged, channelIn (.homing .capturing) .engaged,
   { channelIn (.homing .assessing) .between with homingT := some 298 },
   { channelIn (.homing .seeking) .between with homingT := some 0 },
   { channelIn (.homing .engaging) .between with lockT := some 18 },
   { channelIn .locked .between with lockT := some 0 }, channelIn .locked .engaged,
   { channelIn (.releasing .awaiting) .between with lockT := some 18 },
   { channelIn (.releasing .settling) .released with settle := some 3, lockT := some 18 },
   { channelIn (.releasing .settling) .released with settle := some 4 },
   { channelIn .tracking .released with theta := 20 }, { channelIn .tracking .between with theta := 21, lockT := some 18 },
   { channelIn .holding .between with theta := -7, lockT := some 0 },
   { channelIn (.centring .stepping) .released with theta := 21, centringT := some 0 },
   { channelIn (.centring .stepping) .released with centringT := some 298 },
   { channelIn (.centring .engaging) .between with lockT := some 18 },
   { channelIn (.faulted .lockEngaged) .between with lockT := some 3 },
   { channelIn (.faulted .lockAwaited) .engaged with theta := 20 },
   { channelIn (.faulted .lockAwaited) .between with theta := 20, lockT := some 18 },
   { channelIn (.faulted .lockFailed) .engaged with theta := -20 },
   { channelIn (.faulted .lockFailed) .between with theta := 60 }]

theorem witness_SampleAtScheduleChoosesAndDelivers :
    let arriving := withPath { Path.empty with atSs := [handOver] } steering
    let late := { steering with ss := Quad.build fun _ => ⟨.carried, 40000, 101, none⟩ }
    (arriving.power = .on ∧ arriving.path.atSs = handOver :: [] ∧ arriving.rw.isOpen = true ∧ arriving.pfu.conf = .placed ∧
      fitted arriving .c1 = true ∧ (handOver.entries.get .c1).points.isSome = true) ∧
      (fitted arriving .c4 = true ∧ handOver.entries.get .c4 = .notFitted ∧ (handOver.entries.get .c4).points = none) ∧
      (min ((arriving.ss.get .c3).carry + 1) 65535 ≤ arriving.ct.table.carryLimit ∧ (arriving.ss.get .c3).source ≠ .decaying) ∧
      (fitted late .c1 = true ∧ (late.ss.get .c1).source = .carried ∧ late.ct.used.carryLimit < (late.ss.get .c1).carry) ∧
      (run.ss.get .c1).carry ≤ run.ct.used.carryLimit ∧ run.path.atSs = [] ∧
      ∀ ch ∈ running, ∀ hold ∈ [HoldMode.none, .immediate, .atCentre],
        (delivering ch hold).power = .on ∧ (delivering ch hold).path.atSs = handOver :: [] ∧
          fitted (delivering ch hold) .c1 = true ∧ (delivering ch hold).ac.get .c1 = ch ∧
          (delivering ch hold).sv.hold = hold ∧ BogieInv (delivering ch hold) ∧ ∀ j, ¬TimesOut (delivering ch hold) j := by
  refine ⟨by decide, by decide, by decide, by decide, by decide, by decide, fun ch hc hold hh => ?_⟩
  have h : ∀ ch ∈ running, ∀ hold ∈ [HoldMode.none, .immediate, .atCentre],
      ((delivering ch hold).power = .on ∧ (delivering ch hold).path.atSs = handOver :: [] ∧
        fitted (delivering ch hold) .c1 = true ∧ (delivering ch hold).ac.get .c1 = ch ∧
        (delivering ch hold).sv.hold = hold) ∧
      ((∀ k ∈ Chan.all, callsPartnerRule ((delivering ch hold).ac.get k) = true →
        ((delivering ch hold).ac.get k.partner).state.released = false) ∧ (delivering ch hold).sv.latch = false) ∧
      ∀ k ∈ Chan.all, timesOut (delivering ch hold) k = false := by decide
  obtain ⟨⟨h1, h2, h3, h4, h5⟩, hp, ht⟩ := h ch hc hold hh
  exact ⟨h1, h2, h3, h4, h5, pairing_stands _ hp, fun j => by simp [TimesOut_iff, ht j (Chan.mem_all j)]⟩

/-- Codes at the edges of the range, and errors at, and one beyond, the tolerance of 30. -/
theorem witness_VerificationAndLoop :
    let stepping (c : Contact) (mark : Bool) : State := withChannel .c1
      { channelIn (.centring .stepping) c with conv := .inFlight false, mark := mark, centringT := some 4 } run
    (steering.power = .on ∧ (steering.ac.get .c1).conv = .inFlight false ∧ (run.ac.get .c1).conv = .none) ∧
      (8 < 9 ∧ 4086 < 4087) ∧ ((steering.ac.get .c1).state = .tracking ∧
        ((100 : Int) - trunc ((2160 - 2048) * 40) 64).natAbs ≤ (steering.ct.table.chan.get .c1).tolerance) ∧
      ((steering.ct.table.chan.get .c1).tolerance < ((100 : Int) - trunc ((2158 - 2048) * 40) 64).natAbs ∧
        (steering.ac.get .c1).persist + 1 < (steering.ct.table.chan.get .c1).persistLimit) ∧
      ((steeringWith .c1 { steering.ac.c1 with persist := 24 }).ac.get .c1).persist + 1 ≥
        (steering.ct.table.chan.get .c1).persistLimit ∧
      (∀ c ∈ [Contact.engaged, .between], ∀ mark ∈ [true, false],
        (stepping c mark).power = .on ∧ ((stepping c mark).ac.get .c1).conv = .inFlight false ∧
          ((stepping c mark).ac.get .c1).theta = 0 ∧ ((stepping c mark).ac.get .c1).contact = c) ∧
      (trunc ((2048 - 2048) * 40) 64).natAbs ≤ run.ct.table.lockWindow ∧ BogieInv (stepping .between true) ∧
      BogieInv (stepping .engaged true) ∧
      (channelIn (.releasing .settling) .released).state = .releasing .settling := by
  exact ⟨by decide, by decide, by decide, by decide, by decide, by decide, by decide, pairing_stands _ (by decide),
    pairing_stands _ (by decide), by decide⟩

theorem witness_HomingMeasuresAndSensorRange :
    let homing (c : Contact) (e : Centre) : State := withChannel .c2
      { channelIn (.homing .assessing) c with conv := .inFlight false, centre := e } run
    let capturing : State := withChannel .c2
      { channelIn (.homing .capturing) .between with conv := .inFlight true } run
    (homing .engaged .centre).power = .on ∧ ((homing .engaged .centre).ac.get .c2).conv = .inFlight false ∧
      ((homing .engaged .left).ac.get .c2).theta = 0 ∧ ((homing .released .right).ac.get .c2).drive = .off ∧
      (capturing.ac.get .c2).conv = .inFlight true ∧ (capturing.ac.get .c2).state = .homing .capturing ∧
      (8 : Nat) ≤ 8 ∧ 4087 ≤ 4087 ∧ (steering.ac.get .c1).conv = .inFlight false ∧
      (steering.ac.get .c1).state ≠ .unhomed ∧ (steering.ac.get .c1).state ≠ .absent := by decide

theorem witness_SensorChangesAreTakenByState :
    run.power = .on ∧
      (∀ ch ∈ [channelIn .locked .engaged, channelIn (.releasing .awaiting) .between,
          channelIn (.centring .engaging) .between, channelIn (.faulted .lockFailed) .between,
          channelIn (.homing .engaging) .between, channelIn (.homing .seeking) .between,
          { channelIn (.faulted .lockAwaited) .between with theta := 40, lockT := some 3 },
          { channelIn (.faulted .lockAwaited) .engaged with theta := 40 },
          channelIn (.faulted .lockAwaited) .between],
        BogieInv (withChannel .c1 ch run) ∧ (withChannel .c1 ch run).ac.get .c1 = ch) ∧
      decodeContact true false = .engaged ∧ decodeContact false true = .released ∧ decodeContact true true = .between ∧
      ((run.ac.get .c1).contact = .engaged ∧ (run.ac.get .c1).theta = 0 ∧ (run.ac.get .c1).centre = .centre) := by
  refine ⟨by decide, fun ch hc => ⟨pairing_stands _ ?_, ?_⟩, by decide, by decide, by decide, by decide⟩ <;>
    (revert ch; decide)

/-- A channel in every state and phase that counts a timer, one increment before its limit. -/
def due : List Channel :=
  [{ channelIn (.homing .assessing) .between with homingT := some 299 },
   { channelIn (.homing .seeking) .engaged with homingT := some 299 },
   { channelIn (.homing .engaging) .between with lockT := some 19 },
   { channelIn .locked .between with lockT := some 19 },
   { channelIn (.releasing .awaiting) .engaged with lockT := some 19 },
   { channelIn .tracking .between with theta := 21, lockT := some 19 },
   { channelIn .holding .engaged with lockT := some 19 },
   { channelIn (.centring .stepping) .engaged with centringT := some 299 },
   { channelIn (.centring .stepping) .released with centringT := some 299, mark := true },
   { channelIn (.centring .engaging) .between with lockT := some 19 },
   { channelIn (.faulted .lockEngaged) .between with lockT := some 19 },
   { channelIn (.faulted .lockAwaited) .between with theta := 60, lockT := some 19 }]

theorem witness_ChannelThresholds :
    let timed (st : ChanState) (f : Channel → Channel) : State := withChannel .c3 (f (channelIn st .between)) run
    (run.power = .on ∧
      (((timed .tracking fun c => { c with persist := 25 }).ac.get .c3).persist = 25 ∧
        (run.ct.table.chan.get .c3).persistLimit = 25) ∧
      (((timed (.homing .seeking) fun c => { c with homingT := some 300 }).ac.get .c3).homingT = some 300 ∧
        run.ct.table.homingLimit = 300) ∧
      (((timed .holding fun c => { c with lockT := some 20 }).ac.get .c3).lockT = some 20 ∧
        run.ct.used.lockTime = 20) ∧
      ((timed .locked fun c => { c with lockT := some 20 }).ac.get .c3).state = .locked ∧
      (((timed (.releasing .settling) fun c => { c with settle := some 5 }).ac.get .c3).settle = some 5 ∧
        run.ct.table.settleFrames = 5) ∧
      ((timed (.centring .stepping) fun c => { c with centringT := some 300 }).ac.get .c3).centringT = some 300 ∧
      (run.ac.get .c3).persist < 25 ∧ (run.ac.get .c3).lockT = none) ∧
    ∀ ch ∈ due, ∀ hold ∈ [HoldMode.none, .immediate, .atCentre],
      (delivering ch hold).power = .on ∧ (delivering ch hold).path.atSs = handOver :: [] ∧
        BogieInv (delivering ch hold) ∧ TargetInv (delivering ch hold) ∧ 5 ≤ (delivering ch hold).ct.table.lockTime ∧
        fitted (delivering ch hold) .c1 = true ∧ (delivering ch hold).ac.get .c1 = ch ∧
        (delivering ch hold).sv.faults.length ≤ 12 ∧ TimesOut (delivering ch hold) .c1 ∧
        ∀ j, j ≠ .c1 → ¬TimesOut (delivering ch hold) j := by
  refine ⟨by decide, fun ch hc hold hh => ?_⟩
  have h : ∀ ch ∈ due, ∀ hold ∈ [HoldMode.none, .immediate, .atCentre],
      ((delivering ch hold).power = .on ∧ (delivering ch hold).path.atSs = handOver :: [] ∧
        5 ≤ (delivering ch hold).ct.table.lockTime ∧ fitted (delivering ch hold) .c1 = true ∧
        (delivering ch hold).ac.get .c1 = ch ∧ (delivering ch hold).sv.faults.length ≤ 12) ∧
      ((∀ k ∈ Chan.all, callsPartnerRule ((delivering ch hold).ac.get k) = true →
        ((delivering ch hold).ac.get k.partner).state.released = false) ∧ (delivering ch hold).sv.latch = false) ∧
      timesOut (delivering ch hold) .c1 = true ∧
      ∀ k ∈ Chan.all, k ≠ .c1 → timesOut (delivering ch hold) k = false := by decide
  obtain ⟨⟨h1, h2, h3, h4, h5, h6⟩, hp, hd, ht⟩ := h ch hc hold hh
  refine ⟨h1, h2, pairing_stands _ hp, targets_stand _ ?_, h3, h4, h5, h6, TimesOut_iff.2 hd,
    fun j hj => by simp [TimesOut_iff, ht j (Chan.mem_all j) hj]⟩
  clear * - hc hh; revert ch hold; decide

/-- Four homing timers that meet the homing limit together, as after a RESTART: the delivery's premises hold, and each channel is
FAULTED with its record in the list. -/
theorem test_common_homing_timeout :
    let homing := withPath { Path.empty with atSs := [handOver] }
      { run with ac := Quad.build fun _ => { channelIn (.homing .seeking) .between with homingT := some 299 } }
    BogieInv homing ∧ 5 ≤ homing.ct.table.lockTime ∧ homing.path.atSs = handOver :: [] ∧
      (match exec .sampleAtSs homing with
        | .next t => (Chan.all.map fun k => (t.ac.get k).state, t.sv.faults.map fun f => (f.code, f.subject))
        | _ => ([], [])) =
          (List.replicate 4 (.faulted .lockAwaited), Chan.all.map fun k => (.homingTimeout, .chan k)) := by
  refine ⟨pairing_stands _ (by decide), by decide, by decide, by decide⟩

/-- The part while it steers meets every invariant, with a hand-over on its way as the next command. -/
def steeringSample : State := (withPath { Path.empty with atSs := [handOver] } steering).setPending [.sampleAtSs]

/-- The same with every source CARRIED and the horizon shortfall condition met, and a telegram that contradicts the window. -/
def shortSample : State :=
  { steering with
    ss := Quad.build fun _ => { source := .carried, carried := 40000, carry := 1, look := none }
    sv := { steering.sv with
      view := Quad.build fun _ => viewIn .tracking .carried, level := .reduced, shortfall := true
      faults := [recordOf .horizonShortfall .none true] }
    pending := [.beaconTelegram 3071 true] }

/-- The same on a line that has carried ones for 16 bit times since its last flag. -/
def freeingSample : State := (steering.setLi { steering.li with ones := 16 }).setPending [.lineFree]

theorem inv_while_steering : ∀ s ∈ [steeringSample, shortSample, freeingSample], Inv s := by
  have window (s : State) (hw : s.rw = routed.rw) (hc : s.pfu.conf = .placed) : WindowInv s := by
    rw [WindowInv, hw, hc]
    refine ⟨by decide, ?_, by decide, by decide, by decide, ⟨by decide, by decide, trivial⟩, by decide, by decide⟩
    intro g hg
    rcases List.mem_cons.1 hg with rfl | hg
    · exact ⟨by decide, by decide, by decide, trivial, trivial⟩
    · rcases List.mem_cons.1 hg with rfl | hg
      · exact ⟨by decide, by decide, by decide, ⟨by decide, by decide⟩, ⟨by decide, by decide, by decide⟩⟩
      · exact absurd hg (by simp)
  simp only [List.mem_cons, List.not_mem_nil, or_false, forall_eq_or_imp, forall_eq]
  refine ⟨⟨window _ rfl rfl, ?_, ?_, pairing_stands _ (by decide), targets_stand _ (by decide),
      defaults_in_range _ rfl (by decide), in_range _ (by decide), view_stands _ (by decide), ?_⟩,
    ⟨window _ rfl rfl, ?_, ?_, pairing_stands _ (by decide), targets_stand _ (by decide),
      defaults_in_range _ rfl (by decide), in_range _ (by decide), view_stands _ (by decide), ?_⟩,
    ⟨window _ rfl rfl, ?_, ?_, pairing_stands _ (by decide), targets_stand _ (by decide),
      defaults_in_range _ rfl (by decide), in_range _ (by decide), view_stands _ (by decide), ?_⟩⟩
  · exact ⟨by decide, by decide, by decide, by decide⟩
  · exact ⟨⟨by decide, rfl⟩, by decide, by decide⟩
  · intro _; decide
  · exact ⟨by decide, by decide, by decide, by decide⟩
  · exact ⟨⟨by decide, rfl⟩, by decide, by decide⟩
  · intro _; decide
  · exact ⟨by decide, by decide, by decide, by decide⟩
  · exact ⟨⟨by decide, rfl⟩, by decide, by decide⟩
  · intro _; decide

theorem witness_invariants_while_steering : Inv steeringSample ∧ (∃ t, step steeringSample = .next t) :=
  ⟨inv_while_steering _ (by decide), _, rfl⟩

/-- The sample leaves channel 2 short of the horizon, so the condition comes to be met; a POSITION_CONFLICT ends it. -/
theorem witness_EveryStepKeepsTheSupervisorsView :
    let after (s : State) := match step s with | .next t => t | _ => s
    Inv steeringSample ∧ step steeringSample = .next (after steeringSample) ∧ steeringSample.sv.shortfall = false ∧
      (after steeringSample).sv.shortfall = true ∧ (after steeringSample).sv.faults.length < 16 ∧
      Inv shortSample ∧ step shortSample = .next (after shortSample) ∧ shortSample.sv.shortfall = true ∧
      (after shortSample).sv.shortfall = false :=
  ⟨inv_while_steering _ (by decide), rfl, by decide, by decide, by decide, inv_while_steering _ (by decide), rfl,
    by decide, by decide⟩

/-- A line that becomes FREE in one step. -/
theorem witness_EveryStepKeepsRangesAndTheQueue :
    let after (s : State) := match step s with | .next t => t | _ => s
    Inv freeingSample ∧ step freeingSample = .next (after freeingSample) ∧ freeingSample.li.line = .busy ∧
      (after freeingSample).li.line = .free :=
  ⟨inv_while_steering _ (by decide), rfl, by decide, by decide⟩

/-- The latch clause has its witness too: the latch set, every channel at rest, and a command that is no power-on reset. -/
theorem witness_EveryStepKeepsPairingAndLatch :
    let latched := (run.setSv { run.sv with latch := true, level := .severe }).setPending [.sampleAtSs]
    latched.sv.latch = true ∧ latched.pending = [.sampleAtSs] ∧ ∀ k ∈ Chan.all, (latched.ac.get k).state.released = false := by
  decide

end Sys2Proof.Tests
end

/-! # O40: the motion and the quality of a frame (R55, R56, R59, R60) -/

namespace Sys2Proof.Machine

/-! ### The conditions of R59 -/

theorem isSaturated_iff (c : Int) : isSaturated c = true ↔ 127 < c.natAbs := decide_eq_true_iff

theorem isSaturated_eq_false_iff (c : Int) : isSaturated c = false ↔ ¬127 < c.natAbs :=
  decide_eq_false_iff_not

theorem slipFlag_iff (fresh : Option SpeedRef) :
    slipFlag fresh = true ↔ ∃ ref, fresh = some ref ∧ (ref.slide = true ∨ ref.spin = true) := by
  cases fresh <;> simp [slipFlag]

theorem flagsBraking_iff (fresh : Option SpeedRef) :
    flagsBraking fresh = true ↔ ∃ ref, fresh = some ref ∧ ref.braking = true := by
  cases fresh <;> simp [flagsBraking]

theorem refDistance_some {fresh : Option SpeedRef} {ref : SpeedRef} (h : fresh = some ref) (interval : Nat) :
    refDistance fresh interval = ref.v * interval := by rw [h]; rfl

namespace FrameInput

variable {i : FrameInput}

theorem agrees_iff : i.agrees = true ↔
    (i.distance .t1 - i.distance .t2).natAbs ≤
      2 * max i.lambda.t1 i.lambda.t2 + max (i.distance .t1).natAbs (i.distance .t2).natAbs / 16 :=
  decide_eq_true_iff

/-! ### The first case that holds: one lemma per row of R59 -/

theorem case_of_slip (hs : slipFlag i.fresh = true) : i.case = .c1 := by simp [FrameInput.case, hs]

theorem case_of_agreement (hs : slipFlag i.fresh = false) (h1 : i.tacho.t1 = .working) (h2 : i.tacho.t2 = .working)
    (hu1 : isSaturated i.count.t1 = false) (hu2 : isSaturated i.count.t2 = false) (ha : i.agrees = true) :
    i.case = .c2 := by simp [FrameInput.case, hs, h1, h2, hu1, hu2, ha]

/-- Case 3 is reached past case 2: not both tachos are unsaturated, or they do not agree. -/
theorem case_of_choice (hs : slipFlag i.fresh = false) (h1 : i.tacho.t1 = .working) (h2 : i.tacho.t2 = .working)
    (hu : isSaturated i.count.t1 = false ∨ isSaturated i.count.t2 = false)
    (hn : isSaturated i.count.t1 = true ∨ isSaturated i.count.t2 = true ∨ i.agrees = false) : i.case = .c3 := by
  have hnot2 : (!isSaturated i.count.t1 && !isSaturated i.count.t2 && i.agrees) = false := by
    rcases hn with h | h | h <;> simp [h]
  have h3 : (!isSaturated i.count.t1 || !isSaturated i.count.t2) = true := by
    rcases hu with h | h <;> simp [h]
  simp only [FrameInput.case, hs, h1, h2, beq_self_eq_true, Bool.true_and, hnot2, h3, Bool.false_eq_true, if_false,
    if_true]

/-- Case 4: the tachos' states differ. -/
theorem case_of_one_working (hs : slipFlag i.fresh = false)
    (h : ¬(i.tacho.t1 = .working ↔ i.tacho.t2 = .working)) : i.case = .c4 := by
  by_cases h1 : i.tacho.t1 = .working <;> by_cases h2 : i.tacho.t2 = .working <;>
    simp_all [FrameInput.case]

theorem case_of_both_saturated (hs : slipFlag i.fresh = false) (h1 : i.tacho.t1 = .working) (h2 : i.tacho.t2 = .working)
    (hs1 : isSaturated i.count.t1 = true) (hs2 : isSaturated i.count.t2 = true) : i.case = .c5 := by
  simp [FrameInput.case, hs, h1, h2, hs1, hs2]

theorem case_of_none_working (hs : slipFlag i.fresh = false) (h1 : i.tacho.t1 ≠ .working)
    (h2 : i.tacho.t2 ≠ .working) : i.case = if i.fresh.isSome then .c6a else .c6b := by
  simp [FrameInput.case, hs, beq_eq_false_iff_ne.2 h1, beq_eq_false_iff_ne.2 h2]

/-! ### The motion of each case (R59, R60) -/

theorem motion_of_c1 (h : i.case = .c1) : i.motion = refDistance i.fresh i.interval := by simp only [motion, h]

theorem motion_of_c2 (h : i.case = .c2) : i.motion = (i.distance .t1 + i.distance .t2).tdiv 2 := by
  simp only [motion, h, trunc]

/-- The choice of R60 in case 3: the unsaturated tacho; of two, by the braking flag. -/
theorem motion_of_c3 (h : i.case = .c3) : i.motion =
    if isSaturated i.count.t1 then i.distance .t2
    else if isSaturated i.count.t2 then i.distance .t1
    else if flagsBraking i.fresh then larger (i.distance .t1) (i.distance .t2)
    else smaller (i.distance .t1) (i.distance .t2) := by simp only [motion, h]

theorem motion_of_c4 (h : i.case = .c4) :
    i.motion = if i.tacho.t1 = .working then i.distance .t1 else i.distance .t2 := by simp only [motion, h]

theorem motion_of_c5 (h : i.case = .c5) : i.motion = smaller (i.distance .t1) (i.distance .t2) := by
  simp only [motion, h]

theorem motion_of_c6a (h : i.case = .c6a) : i.motion = refDistance i.fresh i.interval := by simp only [motion, h]

theorem motion_of_c6b (h : i.case = .c6b) : i.motion = 0 := by simp only [motion, h]

theorem quality_of_case {c : MotionCase} (h : i.case = c) : i.case.quality = c.quality := congrArg _ h

end FrameInput

open FrameInput

/-- Settles O40: the rows of R59 one by one, each by the lemma for its case and the lemma for that case's motion. -/
theorem motionByTheFirstCase : Obligations.MotionByTheFirstCase := by
  intro i e1 e2 w1 w2 sat1 sat2 agree slip braking
  refine ⟨fun ref hf hs => ?_, fun hs => ?_⟩
  · have hc := case_of_slip ((slipFlag_iff i.fresh).2 hs)
    exact ⟨hc, (motion_of_c1 hc).trans (refDistance_some hf _), quality_of_case hc⟩
  have hslip : slipFlag i.fresh = false := Bool.eq_false_iff.2 (mt (slipFlag_iff i.fresh).1 hs)
  have unsat1 : ¬sat1 → isSaturated i.count.t1 = false := (isSaturated_eq_false_iff _).2
  have unsat2 : ¬sat2 → isSaturated i.count.t2 = false := (isSaturated_eq_false_iff _).2
  refine ⟨?_, ?_, ?_, ?_, ?_, ?_, ?_, ?_, ?_⟩
  · -- case 2
    intro h1 h2 hu1 hu2 ha
    have hc := case_of_agreement hslip h1 h2 (unsat1 hu1) (unsat2 hu2) (agrees_iff.2 ha)
    exact ⟨hc, motion_of_c2 hc, quality_of_case hc⟩
  · -- case 3, two unsaturated tachos that do not agree
    intro h1 h2 hu1 hu2 ha
    have hc := case_of_choice hslip h1 h2 (.inl (unsat1 hu1)) (.inr (.inr (Bool.eq_false_iff.2 (mt agrees_iff.1 ha))))
    have hm := motion_of_c3 hc
    simp only [unsat1 hu1, unsat2 hu2, Bool.false_eq_true, if_false] at hm
    refine ⟨hc, quality_of_case hc, fun hb => ?_, fun hb => ?_⟩
    · exact hm.trans (if_pos ((flagsBraking_iff i.fresh).2 hb))
    · exact hm.trans (if_neg (mt (flagsBraking_iff i.fresh).1 hb))
  · -- case 3, tacho 1 saturated
    intro h1 h2 hs1 hu2
    have hsat := (isSaturated_iff _).2 hs1
    have hc := case_of_choice hslip h1 h2 (.inr (unsat2 hu2)) (.inl hsat)
    exact ⟨hc, (motion_of_c3 hc).trans (if_pos hsat), quality_of_case hc⟩
  · -- case 3, tacho 2 saturated
    intro h1 h2 hu1 hs2
    have hsat := (isSaturated_iff _).2 hs2
    have hc := case_of_choice hslip h1 h2 (.inl (unsat1 hu1)) (.inr (.inl hsat))
    refine ⟨hc, ?_, quality_of_case hc⟩
    rw [motion_of_c3 hc, unsat1 hu1, if_neg Bool.false_ne_true, if_pos hsat]
    rfl
  · -- case 4, tacho 1
    intro h1 h2
    have hc := case_of_one_working hslip fun h => h2 (h.1 h1)
    exact ⟨hc, (motion_of_c4 hc).trans (if_pos h1), quality_of_case hc⟩
  · -- case 4, tacho 2
    intro h1 h2
    have hc := case_of_one_working hslip fun h => h1 (h.2 h2)
    exact ⟨hc, (motion_of_c4 hc).trans (if_neg h1), quality_of_case hc⟩
  · -- case 5
    intro h1 h2 hs1 hs2
    have hc := case_of_both_saturated hslip h1 h2 ((isSaturated_iff _).2 hs1) ((isSaturated_iff _).2 hs2)
    exact ⟨hc, motion_of_c5 hc, quality_of_case hc⟩
  · -- case 6, a fresh reference
    intro h1 h2 ref hf
    have hc : i.case = .c6a := (case_of_none_working hslip h1 h2).trans (by simp [hf])
    exact ⟨hc, (motion_of_c6a hc).trans (refDistance_some hf _), quality_of_case hc⟩
  · -- case 6, no fresh reference
    intro h1 h2 hf
    have hc : i.case = .c6b := (case_of_none_working hslip h1 h2).trans (by simp [hf])
    exact ⟨hc, motion_of_c6b hc, quality_of_case hc⟩

end Sys2Proof.Machine

/-! # O44: the frame number, and the stamps of the fault records (R54, R197) -/

namespace Sys2Proof.Machine

/-! ### The invariant of one frame

While no frame timer expires the frame number stands, and a fault record either bears it or is one of those that stood
when the operation began, its code, subject and stamp as they were. -/

/-- The record bears frame number `n`, or has the code, subject and frame number of one of `old`. -/
def FaultRecord.DatedFrom (n : Nat) (old : List FaultRecord) (f : FaultRecord) : Prop :=
  f.frame = n ∨ ∃ g ∈ old, g.code = f.code ∧ g.subject = f.subject ∧ g.frame = f.frame

/-- The frame number is `n`, and every fault record bears it or is one of `old`. -/
def Dated (n : Nat) (old : List FaultRecord) (s : State) : Prop :=
  s.odo.frameNo = n ∧ ∀ f ∈ s.sv.faults, f.DatedFrom n old

theorem Dated.start {n : Nat} {s : State} (h : s.odo.frameNo = n) : Dated n s.sv.faults s :=
  ⟨h, fun f hf => .inr ⟨f, hf, rfl, rfl, rfl⟩⟩

section

variable {n : Nat} {old : List FaultRecord} {s t : State}

/-! Only the frame number and the fault list count: an update of any other block keeps the invariant. -/

theorem Dated.setPower (h : Dated n old s) (v : Power) : Dated n old (s.setPower v) := h
theorem Dated.setLi (h : Dated n old s) (v : Li) : Dated n old (s.setLi v) := h
theorem Dated.setAa (h : Dated n old s) (v : Aa) : Dated n old (s.setAa v) := h
theorem Dated.setRw (h : Dated n old s) (v : Rw) : Dated n old (s.setRw v) := h
theorem Dated.setPfu (h : Dated n old s) (v : Pfu) : Dated n old (s.setPfu v) := h
theorem Dated.setSs (h : Dated n old s) (v : Quad SsRec) : Dated n old (s.setSs v) := h
theorem Dated.setAc (h : Dated n old s) (v : Quad Channel) : Dated n old (s.setAc v) := h
theorem Dated.setCt (h : Dated n old s) (v : Ct) : Dated n old (s.setCt v) := h
theorem Dated.setPath (h : Dated n old s) (v : Path) : Dated n old (s.setPath v) := h

theorem Dated.setOdo (h : Dated n old s) (v : Odo) (hv : v.frameNo = s.odo.frameNo := by rfl) :
    Dated n old (s.setOdo v) := ⟨hv.trans h.1, h.2⟩

theorem Dated.setSv (h : Dated n old s) (v : Sv) (hv : v.faults = s.sv.faults := by rfl) :
    Dated n old (s.setSv v) := ⟨h.1, fun f hf => h.2 f (hv ▸ hf)⟩

theorem Dated.ite {p : Prop} [Decidable p] (hs : Dated n old s) (ht : Dated n old t) :
    Dated n old (if p then s else t) := by
  split_ifs
  · exact hs
  · exact ht

/-! ### The fault list -/

theorem FaultRecord.datedFrom_stamp (f : FaultRecord) (d : Option Nat) : (f.stamp d n).DatedFrom n old := .inl rfl

theorem takeFault_datedFrom {sv : Sv} (h : ∀ f ∈ sv.faults, f.DatedFrom n old) (c : FaultCode) (sub : Subject)
    (d : Option Nat) : ∀ f ∈ (sv.takeFault c sub d n).faults, f.DatedFrom n old := by
  have restamped :
      ∀ f ∈ sv.faults.map (fun f => if f.concerns c sub then f.stamp d n else f), f.DatedFrom n old := by
    intro f hf
    obtain ⟨g, hg, rfl⟩ := List.mem_map.1 hf
    split_ifs
    · exact g.datedFrom_stamp d
    · exact h g hg
  have appended (l : List FaultRecord) (hl : l ⊆ sv.faults) :
      ∀ f ∈ l ++ [⟨c, sub, d, n, true⟩], f.DatedFrom n old := by
    intro f hf
    rcases List.mem_append.1 hf with hf | hf
    · exact h f (hl hf)
    · rw [List.mem_singleton.1 hf]; exact .inl rfl
  unfold Sv.takeFault; dsimp only
  split_ifs
  · exact restamped
  · exact restamped
  · exact appended _ (List.Subset.refl _)
  · exact appended _ List.eraseP_subset
  · exact h

theorem raiseFault_dated (h : Dated n old s) (c : FaultCode) (sub : Subject) : Dated n old (raiseFault c sub s) := by
  obtain ⟨rfl, hf⟩ := h
  exact ⟨rfl, takeFault_datedFrom hf c sub _⟩

theorem reportInactive_dated (h : Dated n old s) (c : FaultCode) (sub : Subject) :
    Dated n old (reportInactive c sub s) := by
  refine ⟨h.1, fun f hf => ?_⟩
  obtain ⟨g, hg, rfl⟩ := List.mem_map.1 hf
  split_ifs <;> exact h.2 g hg

theorem removeInactive_dated (h : Dated n old s) : Dated n old (s.setSv s.sv.removeInactive) :=
  ⟨h.1, fun f hf => h.2 f (List.mem_of_mem_filter hf)⟩

theorem reportChannelInactive_dated (h : Dated n old s) (k : Chan) : Dated n old (reportChannelInactive k s) := by
  unfold reportChannelInactive
  generalize channelCodes = codes
  induction codes generalizing s with
  | nil => exact h
  | cons c codes ih => exact ih (reportInactive_dated h c (.chan k))

/-! ### The Supervisor's derivation and the reports that bring it -/

theorem derive_dated (h : Dated n old s) : Dated n old (derive s) := by
  unfold derive; dsimp only; split_ifs
  · exact raiseFault_dated (h.setSv _) _ _
  · exact reportInactive_dated (h.setSv _) _ _
  · exact h.setSv _

theorem reportSource_dated (h : Dated n old s) (k : Chan) : Dated n old (reportSource k s) :=
  .ite h (derive_dated (h.setSv _))

theorem reportRoute_dated (h : Dated n old s) : Dated n old (reportRoute s) :=
  .ite h (derive_dated (h.setSv _))

theorem reportState_dated (h : Dated n old s) (k : Chan) : Dated n old (reportState k s) :=
  .ite h (derive_dated (h.setSv _))

/-! ### A channel's change -/

theorem putChannel_dated (h : Dated n old s) (k : Chan) (ch : Channel) : Dated n old (putChannel k ch s) :=
  h.setAc _

theorem centringOrder_dated (h : Dated n old s) (k : Chan) : Dated n old (centringOrder k s) :=
  .ite (reportState_dated (putChannel_dated h _ _) k) h

/-- Four times the same operation, once for each channel. -/
theorem eachChannel_dated {f : Chan → State → State} (hf : ∀ k {s}, Dated n old s → Dated n old (f k s))
    (h : Dated n old s) : Dated n old (eachChannel f s) := hf _ (hf _ (hf _ (hf _ h)))

theorem centringOrders_dated (h : Dated n old s) : Dated n old (centringOrders s) :=
  eachChannel_dated (fun k _ h => centringOrder_dated h k) h

theorem setLatch_dated (h : Dated n old s) : Dated n old (setLatch s) :=
  derive_dated (centringOrders_dated (h.setSv _))

theorem reportChange_dated (h : Dated n old s) (k : Chan) (before : Channel) :
    Dated n old (reportChange k before s) := by
  unfold reportChange; dsimp only; split_ifs
  · exact h
  · exact centringOrder_dated (reportState_dated h _) _
  · exact reportState_dated h _

theorem foldl_raiseFault_dated (h : Dated n old s) (k : Chan) (l : List FaultCode) :
    Dated n old (l.foldl (fun s c => raiseFault c (.chan k) s) s) := by
  induction l generalizing s with
  | nil => exact h
  | cons c l ih => exact ih (raiseFault_dated h c (.chan k))

theorem commit_dated (h : Dated n old s) (k : Chan) (st : ChanStep) : Dated n old (commit k st s) := by
  have changed := reportChange_dated (putChannel_dated (foldl_raiseFault_dated h k st.faults) k st.ch) k
  unfold commit; dsimp only; split_ifs
  · exact setLatch_dated (changed _)
  · exact changed _

/-! ### Thresholds, deliveries, completions, sensor changes -/

theorem homingTimeout_dated (h : Dated n old s) (k : Chan) : Dated n old (homingTimeout k s) :=
  .ite (commit_dated h _ _) h

theorem lockStuck_dated (h : Dated n old s) (k : Chan) : Dated n old (lockStuck k s) :=
  .ite (commit_dated h _ _) h

theorem lockFail_dated (h : Dated n old s) (k : Chan) : Dated n old (lockFail k s) :=
  .ite (commit_dated h _ _) h

theorem settleFramesReached_dated (h : Dated n old s) (k : Chan) : Dated n old (settleFramesReached k s) :=
  .ite (commit_dated h _ _) h

theorem centringTimerExpiry_dated (h : Dated n old s) (k : Chan) : Dated n old (centringTimerExpiry k s) := by
  unfold centringTimerExpiry; dsimp only
  split
  · exact commit_dated (commit_dated h _ _) _ _
  · exact h

theorem trackingError_dated (h : Dated n old s) (k : Chan) : Dated n old (trackingError k s) :=
  .ite (commit_dated h _ _) h

theorem deliver_dated (h : Dated n old s) (k : Chan) (v : Int) : Dated n old (deliver k v s) :=
  lockFail_dated (centringTimerExpiry_dated (settleFramesReached_dated (lockStuck_dated
    (homingTimeout_dated (commit_dated h _ _) _) _) _) _) _

theorem loadLoopDuty_dated (h : Dated n old s) (k : Chan) : Dated n old (loadLoopDuty k s) :=
  .ite (putChannel_dated h _ _) h

theorem completeConversion_dated (h : Dated n old s) (k : Chan) (raw : Nat) :
    Dated n old (completeConversion k raw s) := by
  have worked (st : ChanStep) := trackingError_dated (commit_dated h k st) k
  unfold completeConversion; extract_lets before cfg
  split
  · exact h
  · exact .ite (commit_dated h _ _) (.ite (worked _) (loadLoopDuty_dated (worked _) k))

theorem lockContactChange_dated (h : Dated n old s) (k : Chan) (lke lkr : Bool) :
    Dated n old (lockContactChange k lke lkr s) :=
  .ite h (commit_dated h _ _)

theorem centreSensorChange_dated (h : Dated n old s) (k : Chan) (ctl ctr : Bool) :
    Dated n old (centreSensorChange k ctl ctr s) :=
  .ite h (commit_dated h _ _)

/-! ### Operations over the channels -/

theorem releaseIf_dated (h : Dated n old s) (q : Chan → Bool) (k : Chan) : Dated n old (releaseIf q k s) :=
  .ite (commit_dated h _ _) h

theorem releaseAll_dated (h : Dated n old s) : Dated n old (releaseAll s) :=
  eachChannel_dated (fun k _ h => releaseIf_dated h (qualifies s) k) h

theorem resumeOne_dated (h : Dated n old s) (k : Chan) : Dated n old (resumeOne k s) :=
  .ite (commit_dated h _ _) h

theorem resumeAll_dated (h : Dated n old s) : Dated n old (resumeAll s) :=
  eachChannel_dated (fun k _ h => resumeOne_dated h k) h

theorem inactiveIfFaulted_dated (h : Dated n old s) (k : Chan) : Dated n old (inactiveIfFaulted k s) := by
  unfold inactiveIfFaulted; split
  · exact reportChannelInactive_dated h k
  · exact h

theorem rehome_dated (h : Dated n old s) (k : Chan) : Dated n old (rehome k s) := commit_dated h _ _

theorem clearChannel_dated (h : Dated n old s) (k : Chan) : Dated n old (clearChannel k s) :=
  .ite (rehome_dated (reportChannelInactive_dated h k) k) h

theorem refit_dated (h : Dated n old s) (before : ConfigTable) (k : Chan) : Dated n old (refit before k s) := by
  unfold refit; dsimp only; split_ifs
  · exact commit_dated (inactiveIfFaulted_dated h k) _ _
  · exact rehome_dated (putChannel_dated (reportSource_dated (h.setSs _) k) _ _) k
  · exact h

/-! ### The Route Window -/

theorem windowTakes_dated (h : Dated n old s) (sample : Sample) : Dated n old (windowTakes sample s) :=
  .ite ((h.setRw _).setPath _) ((h.setRw _).setPath _)

theorem sampleAtRw_dated (h : Dated n old s) : Dated n old (sampleAtRw s) := by
  unfold sampleAtRw; split
  · exact h
  · exact windowTakes_dated (h.setPath _) _

theorem beaconMark_dated (h : Dated n old s) : Dated n old (beaconMark s) := by
  unfold beaconMark; split
  · exact h
  · exact .ite (h.setPath _) (((h.setPath _).setPfu _).setRw _)

theorem unplace_dated (h : Dated n old s) : Dated n old (unplace s) :=
  .ite (reportInactive_dated (h.setPfu _) _ _) (h.setPfu _)

theorem closeWindow_dated (h : Dated n old s) : Dated n old (closeWindow s) :=
  reportRoute_dated (unplace_dated ((h.setRw _).setPath _))

theorem openRoute_dated (h : Dated n old s) (f : OpenRouteFields) (lead : VehicleEnd) :
    Dated n old (openRoute f lead s) := by
  have opened (rw : Rw) (pfu : Pfu) (p : Path) :
      Dated n old ((((s.setRw rw).setOdo { s.odo with r := f.rRef * 1000 }).setPfu pfu).setPath p) :=
    (((h.setRw _).setOdo _).setPfu _).setPath _
  refine reportRoute_dated (.ite (reportInactive_dated ?_ _ _) ?_)
  all_goals exact reportInactive_dated (.ite (opened _ _ _) ((opened _ _ _).setSs _)) _ _

/-! ### The Odometer -/

theorem tachoCount_dated (h : Dated n old s) (x : Tacho) (e : TachoEdge) : Dated n old (tachoCount x e s) :=
  .ite h (h.setOdo _)

theorem tachoFailed_dated (h : Dated n old s) (x : Tacho) : Dated n old (tachoFailed x s) :=
  .ite (raiseFault_dated (h.setOdo _) _ _) h

theorem tachoDisagree_dated (h : Dated n old s) : Dated n old (tachoDisagree s) :=
  .ite (raiseFault_dated (h.setOdo _) _ _) h

theorem tachoAgreementReached_dated (h : Dated n old s) : Dated n old (tachoAgreementReached s) :=
  .ite (reportInactive_dated h _ _) h

theorem streakReports_dated (h : Dated n old s) (before : Nat) : Dated n old (streakReports before s) :=
  .ite (tachoAgreementReached_dated (tachoDisagree_dated h)) (tachoDisagree_dated h)

theorem standstillReached_dated (h : Dated n old s) : Dated n old (standstillReached s) :=
  .ite (h.setOdo _) h

theorem decideStandstill_dated (h : Dated n old s) (i : FrameInput) : Dated n old (decideStandstill i s) := by
  refine .ite (.ite (.ite ((h.setOdo _).setOdo _) (h.setOdo _)) (h.setOdo _)) ?_
  split
  · exact .ite (h.setOdo _) (h.setOdo _)
  · exact h.setOdo _

theorem withdrawOffer_dated (h : Dated n old s) : Dated n old (withdrawOffer s) := by
  unfold withdrawOffer; split
  · exact h.setAa _
  · exact h

/-- The closing of a frame counts it first, so that the faults it reports bear the new number (R54). -/
theorem closeFrame_dated (ft : FrameTimer) (s : State) :
    Dated ((s.odo.frameNo + 1) % 65536) s.sv.faults (closeFrame ft s) := by
  have decided (o : Odo) (ho : o.frameNo = (s.odo.frameNo + 1) % 65536) (i : FrameInput) :
      Dated ((s.odo.frameNo + 1) % 65536) s.sv.faults
        (decideStandstill i (streakReports s.odo.agree (tachoFailed .t2 (tachoFailed .t1 (s.setOdo o))))) := by
    have counted : Dated ((s.odo.frameNo + 1) % 65536) s.sv.faults (s.setOdo o) := .start (s := s.setOdo o) ho
    exact decideStandstill_dated (streakReports_dated (tachoFailed_dated (tachoFailed_dated counted _) _) _) i
  exact (Dated.ite (withdrawOffer_dated (decided _ rfl _)) (decided _ rfl _)).setPath _

theorem positionCorrection_dated (h : Dated n old s) : Dated n old (positionCorrection s) := by
  unfold positionCorrection; split
  · exact h
  · exact .ite (h.setPath _) ((h.setPath _).setOdo _)

/-! ### The Position Fix Unit -/

theorem beaconMissed_dated (h : Dated n old s) : Dated n old (beaconMissed s) :=
  .ite (raiseFault_dated (h.setPfu _) _ _) h

theorem missBeacon_dated (h : Dated n old s) (b : BeaconAt) : Dated n old (missBeacon s b) :=
  beaconMissed_dated (((h.setPfu _).setPath _).setPfu _)

theorem foldl_missBeacon_dated (h : Dated n old s) (l : List BeaconAt) : Dated n old (l.foldl missBeacon s) := by
  induction l generalizing s with
  | nil => exact h
  | cons b l ih => exact ih (missBeacon_dated h b)

theorem driftTest_dated (h : Dated n old s) : Dated n old (driftTest s) :=
  .ite (reportRoute_dated (h.setPfu _)) h

theorem pfuHandles_dated (h : Dated n old s) (sample : Sample) : Dated n old (pfuHandles sample s) :=
  driftTest_dated (foldl_missBeacon_dated (h.setPfu _) _)

theorem sampleAtPfu_dated (h : Dated n old s) : Dated n old (sampleAtPfu s) := by
  unfold sampleAtPfu; split
  · exact h
  · exact (Dated.ite (h.setPath _) (pfuHandles_dated (h.setPath _) _)).setPath _

theorem matchBeacon_dated (h : Dated n old s) (reader : Int) (b : BeaconAt) :
    Dated n old (matchBeacon reader b s) := by
  refine reportRoute_dated (reportInactive_dated (.ite (reportInactive_dated ?_ _ _) ?_) _ _)
  all_goals exact (((h.setPfu _).setPath _).setPath _).setPfu _

theorem conflict_dated (h : Dated n old s) : Dated n old (conflict s) :=
  raiseFault_dated (reportRoute_dated (h.setPfu _)) _ _

theorem beaconTelegram_dated (h : Dated n old s) (id : Nat) (good : Bool) :
    Dated n old (beaconTelegram id good s) := by
  unfold beaconTelegram; dsimp only
  split
  · exact h
  split
  · exact matchBeacon_dated h _ _
  · split_ifs
    · exact h
    · exact h
    · exact conflict_dated h

theorem place_dated (h : Dated n old s) (rRef u : Nat) : Dated n old (place rRef u s) :=
  reportRoute_dated (reportInactive_dated (((h.setOdo _).setPfu _).setPath _) _ _)

/-! ### The Steering Schedule -/

theorem scheduleChannel_dated (h : Dated n old s) (sample : Sample) (entry : HandEntry) (k : Chan) :
    Dated n old (scheduleChannel sample entry k s) :=
  .ite (deliver_dated (reportSource_dated (h.setSs _) k) k _) h

theorem scheduleTakes_dated (h : Dated n old s) (ho : HandOver) : Dated n old (scheduleTakes ho s) :=
  scheduleChannel_dated (scheduleChannel_dated (scheduleChannel_dated (scheduleChannel_dated h _ _ _) _ _ _)
    _ _ _) _ _ _

theorem sampleAtSs_dated (h : Dated n old s) : Dated n old (sampleAtSs s) := by
  unfold sampleAtSs; split
  · exact h
  · exact scheduleTakes_dated ((h.setPath _).setCt _) _

theorem carryLimitExceeded_dated (h : Dated n old s) (k : Chan) : Dated n old (carryLimitExceeded k s) :=
  .ite (reportSource_dated (h.setSs _) k) h

/-! ### The Arbiter -/

theorem silence_dated (h : Dated n old s) (m : Master) : Dated n old (silence m s) := by
  unfold silence; split
  · exact raiseFault_dated (h.setAa _) _ _
  · split
    · split_ifs
      · exact h.setAa _
      · exact h
    · exact h

theorem presenceExpiry_dated (h : Dated n old s) (m : Master) : Dated n old (presenceExpiry m s) := by
  unfold presenceExpiry; split
  · exact silence_dated (h.setAa _) m
  · exact h

theorem offerExpiry_dated (h : Dated n old s) : Dated n old (offerExpiry s) := by
  unfold offerExpiry; split
  · exact h.setAa _
  · exact h

/-! ### The operating modes -/

theorem resetRecord_dated (h : Dated n old s) (k : Chan) : Dated n old (resetRecord k s) :=
  .ite (reportSource_dated (h.setSs _) k) (h.setSs _)

theorem resetRecords_dated (h : Dated n old s) : Dated n old (resetRecords s) :=
  eachChannel_dated (fun k _ h => resetRecord_dated h k) h

theorem sleepChannel_dated (h : Dated n old s) (k : Chan) : Dated n old (sleepChannel k s) :=
  .ite (commit_dated (inactiveIfFaulted_dated h k) _ _) h

theorem sleepEntry_dated (h : Dated n old s) : Dated n old (sleepEntry s) :=
  ((eachChannel_dated (fun k _ h => sleepChannel_dated h k)
    (closeWindow_dated ((((h.setLi _).setAa _).setOdo _).setPath _))).setSv _).setCt _

theorem wake_dated (h : Dated n old s) : Dated n old (wake s) :=
  .ite (resetRecords_dated ((((h.setCt _).setOdo _).setLi _).setAa _)) h

theorem restartChannel_dated (h : Dated n old s) (k : Chan) : Dated n old (restartChannel k s) :=
  .ite (commit_dated (inactiveIfFaulted_dated h k) _ _) h

theorem restartEffects_dated (h : Dated n old s) : Dated n old (restartEffects s) :=
  ((eachChannel_dated (fun k _ h => restartChannel_dated h k)
    (resetRecords_dated (closeWindow_dated (h.setAa _)))).setSv _).setCt _

theorem applyPendingMode_dated (h : Dated n old s) : Dated n old (applyPendingMode s) := by
  unfold applyPendingMode; split
  · exact h
  · exact restartEffects_dated h
  · exact sleepEntry_dated h

theorem homeChannel_dated (h : Dated n old s) (k : Chan) : Dated n old (homeChannel k s) :=
  .ite (commit_dated h _ _) h

theorem stabilisationExpiry_dated (h : Dated n old s) : Dated n old (stabilisationExpiry s) := by
  unfold stabilisationExpiry; split
  · exact eachChannel_dated (fun k _ h => homeChannel_dated h k) (h.setCt _)
  · exact h

theorem quiesce_dated (h : Dated n old s) : Dated n old (quiesce s) :=
  (((((h.setLi _).setAa _).setOdo _).setCt _).setAc _).setPath _

theorem resetAsserted_dated (h : Dated n old s) : Dated n old (resetAsserted s) :=
  .ite h ((quiesce_dated h).setPower _)

theorem supplyLoss_dated (h : Dated n old s) : Dated n old (supplyLoss s) := (quiesce_dated h).setPower _

theorem tick_frameNo (o : Odo) : o.tick.frameNo = o.frameNo := by
  unfold Odo.tick; split
  · rfl
  · split_ifs <;> rfl

theorem tick_dated (h : Dated n old s) : Dated n old (tick s) := by
  have ticked := ((h.setLi s.li.tick).setAa s.aa.tick).setOdo s.odo.tick (tick_frameNo s.odo)
  exact ticked.setCt _

/-! ### Requests -/

theorem clearConditions_dated (h : Dated n old s) : Dated n old (clearConditions s) := by
  have cleared := eachChannel_dated (fun k _ h => clearChannel_dated h k) h
  exact reportInactive_dated (reportInactive_dated (cleared.setOdo _) _ _) _ _

theorem storeConfig_dated (h : Dated n old s) (p : ParamRef) (v : Int) : Dated n old (storeConfig p v s) :=
  eachChannel_dated (fun k _ h => refit_dated h s.ct.table k) (h.setCt _)

/-! A request refused leaves the state; one taken has the effect of its owner's operation. -/

theorem takeClaim_dated (h : Dated n old s) (m : Master) : Dated n old (takeClaim m s).state := by
  unfold takeClaim; split_ifs
  exacts [h, h, h, h, reportInactive_dated (h.setAa _) _ _]

theorem takeRelease_dated (h : Dated n old s) (m : Master) : Dated n old (takeRelease m s).state := by
  unfold takeRelease; split_ifs
  exacts [h, h.setAa _]

theorem takeOffer_dated (h : Dated n old s) (m : Master) (target : Nat) : Dated n old (takeOffer m target s).state := by
  unfold takeOffer; (repeat' split)
  exacts [h, h, h, h, h, h.setAa _]

theorem takeAccept_dated (h : Dated n old s) (m : Master) : Dated n old (takeAccept m s).state := by
  unfold takeAccept; (repeat' split)
  exacts [h.setAa _, h, h]

theorem takeOpenRoute_dated (h : Dated n old s) (m : Master) (f : OpenRouteFields) :
    Dated n old (takeOpenRoute m f s).state := by
  unfold takeOpenRoute; (repeat' split)
  exacts [h, h, h, h, openRoute_dated h f _]

theorem takeAppendSegment_dated (h : Dated n old s) (m : Master) (f : SegmentFields) :
    Dated n old (takeAppendSegment m f s).state := by
  unfold takeAppendSegment; (repeat' split)
  exacts [h, h, h, h, h, h.setRw _]

theorem takeCloseRoute_dated (h : Dated n old s) (m : Master) : Dated n old (takeCloseRoute m s).state := by
  unfold takeCloseRoute; split_ifs
  exacts [h, h, centringOrders_dated (closeWindow_dated h)]

theorem takePlace_dated (h : Dated n old s) (m : Master) (rRef u : Nat) : Dated n old (takePlace m rRef u s).state := by
  unfold takePlace; (repeat' split)
  exacts [h, h, h, place_dated h rRef u]

theorem takeSpeedReference_dated (h : Dated n old s) (m : Master) (v : Int) (flags : Nat) :
    Dated n old (takeSpeedReference m v flags s).state := by
  unfold takeSpeedReference; split_ifs
  exacts [h.setOdo _, h]

theorem takeUnlock_dated (h : Dated n old s) (m : Master) : Dated n old (takeUnlock m s).state := by
  unfold takeUnlock; (repeat' split)
  exacts [h, h, h, h, h, releaseAll_dated h]

theorem takeCalibrate_dated (h : Dated n old s) (m : Master) (channel : Nat) :
    Dated n old (takeCalibrate m channel s).state := by
  unfold takeCalibrate; (repeat' split)
  exacts [h, h, h, h, commit_dated h _ _]

theorem takeCentreAll_dated (h : Dated n old s) (m : Master) : Dated n old (takeCentreAll m s).state := by
  unfold takeCentreAll; split_ifs
  exacts [h, centringOrders_dated h]

theorem takeHold_dated (h : Dated n old s) (m : Master) (mode : Nat) : Dated n old (takeHold m mode s).state := by
  unfold takeHold; (repeat' split)
  exacts [h, h, h.setSv _]

theorem takeResume_dated (h : Dated n old s) (m : Master) : Dated n old (takeResume m s).state := by
  unfold takeResume; split_ifs
  exacts [h, resumeAll_dated (h.setSv _)]

theorem takeClearFaults_dated (h : Dated n old s) (m : Master) : Dated n old (takeClearFaults m s).state := by
  unfold takeClearFaults; split_ifs
  exacts [h, h, removeInactive_dated (clearConditions_dated h)]

theorem takeSetConfig_dated (h : Dated n old s) (m : Master) (param channel : Nat) (v : Int) :
    Dated n old (takeSetConfig m param channel v s).state := by
  unfold takeSetConfig; (repeat' split)
  exacts [h, h, h, h, h, storeConfig_dated h _ v]

theorem takeSetGain_dated (h : Dated n old s) (m : Master) (gain : Nat) : Dated n old (takeSetGain m gain s).state := by
  unfold takeSetGain; split_ifs
  exacts [h, h.setCt _]

theorem takeModeChange_dated (h : Dated n old s) (m : Master) (change : PendingMode) :
    Dated n old (takeModeChange m change s).state := by
  unfold takeModeChange; split_ifs
  exacts [h, h, h, h.setCt _]

theorem takeRead_dated (h : Dated n old s) (ok : Bool) : Dated n old (takeRead ok s).state := by
  unfold takeRead; split_ifs <;> exact h

theorem ownerTakes_dated (h : Dated n old s) (m : Master) (req : Request) : Dated n old (ownerTakes m req s).state := by
  cases req with
  | claim => exact takeClaim_dated h m
  | release => exact takeRelease_dated h m
  | offer target => exact takeOffer_dated h m target
  | accept => exact takeAccept_dated h m
  | openRoute f => exact takeOpenRoute_dated h m f
  | appendSegment f => exact takeAppendSegment_dated h m f
  | closeRoute => exact takeCloseRoute_dated h m
  | place rRef u => exact takePlace_dated h m rRef u
  | speedReference v flags => exact takeSpeedReference_dated h m v flags
  | unlock => exact takeUnlock_dated h m
  | calibrate channel => exact takeCalibrate_dated h m channel
  | centreAll => exact takeCentreAll_dated h m
  | hold mode => exact takeHold_dated h m mode
  | resume => exact takeResume_dated h m
  | clearFaults => exact takeClearFaults_dated h m
  | setConfig param channel v => exact takeSetConfig_dated h m param channel v
  | setGain gain => exact takeSetGain_dated h m gain
  | sleep => exact takeModeChange_dated h m .sleep
  | restart => exact takeModeChange_dated h m .restart
  | readStatus => exact takeRead_dated h _
  | readPosition => exact takeRead_dated h _
  | readChannel channel => exact takeRead_dated h _
  | readWindow position => exact takeRead_dated h _
  | readFaults position => exact takeRead_dated h _
  | badLength code => exact h
  | unknownKind code => exact h

/-! ### The Line Interface -/

theorem judge_dated (h : Dated n old s) (m : Master) (req : Request) : Dated n old (judge m req s).state := by
  unfold judge; (repeat' split)
  exacts [h, h, ownerTakes_dated h m req]

theorem endService_dated (h : Dated n old s) : Dated n old (endService s) := applyPendingMode_dated (h.setLi _)

theorem dispatch_dated (h : Dated n old s) (f : QFrame) : Dated n old (dispatch f s) := by
  have judged := judge_dated h f.hdr.src f.req
  unfold dispatch; dsimp only; split
  · exact judged
  · exact .ite (endService_dated (judged.setLi _)) (judged.setLi _)

theorem serveUpTo_dated (h : Dated n old s) (fuel : Nat) : Dated n old (serveUpTo fuel s) := by
  induction fuel generalizing s with
  | zero => exact h
  | succ fuel ih =>
    unfold serveUpTo; split
    · exact ih (dispatch_dated (h.setLi _) _)
    · exact h

theorem serve_dated (h : Dated n old s) : Dated n old (serve s) := serveUpTo_dated h _

theorem enqueue_dated (h : Dated n old s) (hdr : Hdr) (req : Request) : Dated n old (enqueue hdr req s) :=
  .ite (h.setLi _) (h.setLi _)

theorem acceptFrame_dated (h : Dated n old s) (hdr : Hdr) (req : Request) : Dated n old (acceptFrame hdr req s) :=
  .ite (serve_dated (enqueue_dated (h.setAa _) hdr req)) (h.setAa _)

theorem noteFlag_dated (h : Dated n old s) (b : Bool) : Dated n old (noteFlag b s) := .ite h (h.setLi _)

theorem receiveRequest_dated (h : Dated n old s) (hdr : Hdr) (req : Request) : Dated n old (receiveRequest hdr req s) :=
  .ite (acceptFrame_dated (h.setLi _) hdr req) (noteFlag_dated h _)

theorem receiveBits_dated (h : Dated n old s) (bits : List Bool) : Dated n old (receiveBits bits s) := by
  unfold receiveBits; (repeat' split)
  exacts [h, h, acceptFrame_dated h _ _]

theorem frameClosed_dated (h : Dated n old s) (bits : List Bool) : Dated n old (frameClosed bits s) := by
  unfold frameClosed; split
  · exact noteFlag_dated h _
  · exact noteFlag_dated h _
  · exact h.setLi _
  · exact .ite (h.setLi _) (receiveBits_dated (h.setLi _) bits)

theorem frameAbort_dated (h : Dated n old s) : Dated n old (frameAbort s) := by
  unfold frameAbort; split
  · exact h.setLi _
  · exact .ite (h.setLi _) h
  · exact .ite (h.setLi _) h
  · exact h.setLi _

theorem openingFlag_dated (h : Dated n old s) : Dated n old (openingFlag s) := .ite (h.setLi _) (noteFlag_dated h _)

theorem lineFree_dated (h : Dated n old s) : Dated n old (lineFree s) := .ite (h.setLi _) h

theorem replyStart_dated (h : Dated n old s) : Dated n old (replyStart s) := by
  unfold replyStart; split
  · exact h
  · exact .ite ((h.setSv _).setLi _) h

theorem endOfService_dated (h : Dated n old s) : Dated n old (endOfService s) := by
  unfold endOfService; (repeat' split)
  exacts [h, h, serve_dated (endService_dated (h.setLi _))]

theorem replyDrop_dated (h : Dated n old s) : Dated n old (replyDrop s) := by
  unfold replyDrop; split
  · exact h
  · exact .ite (serve_dated (endService_dated h)) h

/-! ### Commands -/

theorem whenOn_dated {f : State → State} (h : Dated n old s) (hf : Dated n old (f s)) : Dated n old (whenOn s f) := by
  unfold whenOn; split
  exacts [hf, h, h]

theorem whenOn_off {f : State → State} (h : s.power ≠ .on) : whenOn s f = s := by
  unfold whenOn; split
  exacts [absurd ‹_› h, rfl, rfl]

end

/-- The frame number after a command: an expiry of the running frame timer of a part that is on adds one modulo 65,536, a
power-on reset makes it 0 (R54). -/
def frameNoAfter (c : Instr) (s : State) : Nat :=
  match c with
  | .frameTimerExpiry => if s.power = .on ∧ s.odo.timer ≠ none then (s.odo.frameNo + 1) % 65536 else s.odo.frameNo
  | .powerOnReset _ _ => 0
  | _ => s.odo.frameNo

theorem frameNoAfter_expiry {s : State} (hon : s.power = .on) (htm : s.odo.timer ≠ none) :
    frameNoAfter .frameTimerExpiry s = (s.odo.frameNo + 1) % 65536 := if_pos ⟨hon, htm⟩

theorem frameNoAfter_setPending (c : Instr) (s : State) (rest : List Instr) :
    frameNoAfter c (s.setPending rest) = frameNoAfter c s := by cases c <;> rfl

/-- A command that neither expires the running frame timer nor resets the part leaves the frame number. -/
theorem frameNoAfter_of_stands {c : Instr} {s : State}
    (he : c = .frameTimerExpiry → s.power ≠ .on ∨ s.odo.timer = none)
    (hr : ∀ straps pins, c ≠ .powerOnReset straps pins) :
    frameNoAfter c s = s.odo.frameNo := by
  unfold frameNoAfter; split
  · exact if_neg fun h => (he rfl).elim (· h.1) h.2
  · exact absurd rfl (hr _ _)
  · rfl

/-- The frame number that the command `c` leaves is that of `frameNoAfter`, and a record it stamps bears that number. -/
def DatesRecords (c : Instr) : Prop :=
  ∀ s t : State, exec c s = .next t → Dated (frameNoAfter c s) s.sv.faults t

namespace DatesRecords

/-- A command whose operation keeps the invariant of one frame. -/
theorem of_effect {c : Instr} {f : State → State} (hf : ∀ {n old s}, Dated n old s → Dated n old (f s))
    (he : ∀ s, exec c s = .next (f s) := by intro _; rfl)
    (hn : ∀ s, frameNoAfter c s = s.odo.frameNo := by intro _; rfl) :
    DatesRecords c := by
  intro s t ht
  rw [hn, ← Host.Outcome.next.inj ((he s).symm.trans ht)]
  exact hf (.start rfl)

theorem of_event {c : Instr} {f : State → State} (hf : ∀ {n old s}, Dated n old s → Dated n old (f s))
    (he : ∀ s, exec c s = runEvent f s := by intro _; rfl)
    (hn : ∀ s, frameNoAfter c s = s.odo.frameNo := by intro _; rfl) :
    DatesRecords c := of_effect (fun h => whenOn_dated h (hf h)) he hn

theorem of_request {c : Instr} (h : Hdr) (req : Request) (he : ∀ s, exec c s = runRequest h req s := by intro _; rfl)
    (hn : ∀ s, frameNoAfter c s = s.odo.frameNo := by intro _; rfl) : DatesRecords c :=
  of_event (fun hs => receiveRequest_dated hs h req) he hn

theorem of_frameTimerExpiry : DatesRecords .frameTimerExpiry := by
  intro s t ht
  rw [← Host.Outcome.next.inj (show Host.Outcome.next (whenOn s frameTimerExpiry) = .next t from ht)]
  by_cases hon : s.power = .on
  · rw [whenOn_on hon]
    cases htm : s.odo.timer with
    | none => simpa [frameNoAfter, frameTimerExpiry, htm] using Dated.start rfl
    | some ft => simpa [frameNoAfter, frameTimerExpiry, htm, hon] using closeFrame_dated ft s
  · rw [whenOn_off hon]
    exact .start (if_neg fun h => hon h.1).symm

/-- A power-on reset leaves no record. -/
theorem of_powerOnReset (straps : Nat) (pins : Quad SensorPins) : DatesRecords (.powerOnReset straps pins) := by
  intro s t ht
  rw [← Host.Outcome.next.inj ht]
  exact ⟨rfl, fun f hf => absurd hf List.not_mem_nil⟩

end DatesRecords

open DatesRecords in
theorem exec_dated (c : Instr) : DatesRecords c := by
  cases c with
  | openRoute h f => exact of_request h (.openRoute f)
  | appendSegment h f => exact of_request h (.appendSegment f)
  | closeRoute h => exact of_request h .closeRoute
  | speedReference h v flags => exact of_request h (.speedReference v flags)
  | place h rRef u => exact of_request h (.place rRef u)
  | unlock h => exact of_request h .unlock
  | centreAll h => exact of_request h .centreAll
  | calibrate h channel => exact of_request h (.calibrate channel)
  | hold h mode => exact of_request h (.hold mode)
  | resume h => exact of_request h .resume
  | claim h => exact of_request h .claim
  | release h => exact of_request h .release
  | offer h target => exact of_request h (.offer target)
  | accept h => exact of_request h .accept
  | readStatus h => exact of_request h .readStatus
  | readPosition h => exact of_request h .readPosition
  | readChannel h channel => exact of_request h (.readChannel channel)
  | readWindow h position => exact of_request h (.readWindow position)
  | readFaults h position => exact of_request h (.readFaults position)
  | setConfig h param channel value => exact of_request h (.setConfig param channel value)
  | setGain h gain => exact of_request h (.setGain gain)
  | sleep h => exact of_request h .sleep
  | restart h => exact of_request h .restart
  | clearFaults h => exact of_request h .clearFaults
  | frameClosed bits => exact of_event (frameClosed_dated · bits)
  | frameAbort => exact of_event frameAbort_dated
  | lineFree => exact of_event lineFree_dated
  | replyStart => exact of_event replyStart_dated
  | endOfService => exact of_event endOfService_dated
  | replyDrop => exact of_event replyDrop_dated
  | wake => exact of_event wake_dated
  | resetAsserted => exact of_effect resetAsserted_dated
  | powerOnReset straps pins => exact of_powerOnReset straps pins
  | stabilisationTimerExpiry => exact of_event stabilisationExpiry_dated
  | frameTimerExpiry => exact of_frameTimerExpiry
  | tachoFailed x => exact of_event (tachoFailed_dated · x)
  | tachoDisagree => exact of_event tachoDisagree_dated
  | tachoAgreementReached => exact of_event tachoAgreementReached_dated
  | standstillReached => exact of_event standstillReached_dated
  | tachoCount x e => exact of_event (tachoCount_dated · x e)
  | sampleAtPfu => exact of_event sampleAtPfu_dated
  | beaconMissed => exact of_event beaconMissed_dated
  | sampleAtRw => exact of_event sampleAtRw_dated
  | sampleAtSs => exact of_event sampleAtSs_dated
  | carryLimitExceeded k => exact of_event (carryLimitExceeded_dated · k)
  | conversionCompletion k raw => exact of_event (completeConversion_dated · k raw)
  | trackingError k => exact of_event (trackingError_dated · k)
  | drivePeriodStart k => exact of_event (putChannel_dated · k _)
  | lockContactChange k lke lkr => exact of_event (lockContactChange_dated · k lke lkr)
  | centreSensorChange k ctl ctr => exact of_event (centreSensorChange_dated · k ctl ctr)
  | homingTimeout k => exact of_event (homingTimeout_dated · k)
  | lockStuck k => exact of_event (lockStuck_dated · k)
  | lockFail k => exact of_event (lockFail_dated · k)
  | settleFramesReached k => exact of_event (settleFramesReached_dated · k)
  | centringTimerExpiry k => exact of_event (centringTimerExpiry_dated · k)
  | beaconTelegram id good => exact of_event (beaconTelegram_dated · id good)
  | positionCorrection => exact of_event positionCorrection_dated
  | beaconMark => exact of_event beaconMark_dated
  | presenceTimerExpiry m => exact of_event (presenceExpiry_dated · m)
  | offerTimerExpiry => exact of_event offerExpiry_dated
  | openingFlag => exact of_event openingFlag_dated
  | supplyLoss => exact of_effect supplyLoss_dated

/-! ### The step -/

theorem step_idle_dated {s t : State} (hp : s.pending = []) (h : step s = .next t) :
    Dated s.odo.frameNo s.sv.faults t := by
  have hstep : step s = .next (whenOn s tick) := by unfold step; rw [hp]
  rw [← Host.Outcome.next.inj (hstep.symm.trans h)]
  exact whenOn_dated (.start rfl) (tick_dated (.start rfl))

theorem step_command_dated {s t : State} {c : Instr} {rest : List Instr} (hp : s.pending = c :: rest)
    (h : step s = .next t) : Dated (frameNoAfter c s) s.sv.faults t := by
  have hstep : step s = exec c (s.setPending rest) := by unfold step; rw [hp]
  exact frameNoAfter_setPending c s rest ▸ exec_dated c _ t (hstep.symm.trans h)

theorem Dated.records {n : Nat} {old : List FaultRecord} {t : State} (h : Dated n old t) :
    ∀ f ∈ t.sv.faults, f.DatedFrom t.odo.frameNo old := h.1 ▸ h.2

/-- Settles O44: a step is a bit time, which leaves the frame number as it was, or a command, which leaves the number of
`frameNoAfter`. -/
theorem frameNumberCountsExpiriesAndStampsFaults : Obligations.FrameNumberCountsExpiriesAndStampsFaults := by
  intro s t h
  cases hp : s.pending with
  | nil =>
    have hd := step_idle_dated hp h
    have hnil (c : Instr) (rest : List Instr) : [] ≠ c :: rest := (List.cons_ne_nil c rest).symm
    exact ⟨fun rest hc => absurd hc (hnil _ rest), fun _ _ rest hc => absurd hc (hnil _ rest), fun _ _ => hd.1,
      hd.records⟩
  | cons c rest =>
    have hd := step_command_dated hp h
    refine ⟨fun rest' hc hon htm => ?_, fun a p rest' hc => ?_, fun he hr => ?_, hd.records⟩
    · obtain ⟨rfl, rfl⟩ := List.cons.inj hc
      exact hd.1.trans (frameNoAfter_expiry hon htm)
    · obtain ⟨rfl, rfl⟩ := List.cons.inj hc
      exact hd.1
    · have stands : frameNoAfter c s = s.odo.frameNo :=
        frameNoAfter_of_stands (fun hc => he rest (by rw [hc])) fun a p hc => hr a p rest (by rw [hc])
      exact hd.1.trans stands

end Sys2Proof.Machine

/-! # O43: fault reports and inactive reports (R197 to R202) -/

namespace Sys2Proof.Machine

/-! ### Identity, stamps and new records (R197, R198) -/

theorem FaultRecord.concerns_iff (f : FaultRecord) (c : FaultCode) (sub : Subject) :
    f.concerns c sub = true ↔ f.code = c ∧ f.subject = sub := by
  simp [FaultRecord.concerns]

theorem stampDistance_eq (s : State) :
    stampDistance s = if s.pfu.conf = .unplaced then none else some (s.odo.r / 1000) := by
  simp [stampDistance, wholeMm]

section

variable {c : FaultCode} {sub : Subject} {d : Option Nat} {n : Nat}

/-- A record stamped anew is the record a new report of its code and subject would add: the code and the subject are all
that a stamping leaves of it. -/
theorem FaultRecord.stamp_eq_new {f : FaultRecord} (h : f.code = c ∧ f.subject = sub) :
    f.stamp d n = ⟨c, sub, d, n, true⟩ := by
  obtain ⟨rfl, rfl⟩ := h
  rfl

/-- A change to the records of one code and subject alone, read off at one position of the list. -/
theorem getElem?_map_concerns (change : FaultRecord → FaultRecord) {l : List FaultRecord} {i : Nat} {f : FaultRecord}
    (hf : l[i]? = some f) :
    (f.code = c ∧ f.subject = sub → (l.map fun g => if g.concerns c sub then change g else g)[i]? = some (change f)) ∧
      (¬(f.code = c ∧ f.subject = sub) → (l.map fun g => if g.concerns c sub then change g else g)[i]? = some f) := by
  rw [List.getElem?_map, hf, Option.map_some, ← f.concerns_iff]
  exact ⟨fun h => by rw [if_pos h], fun h => by rw [if_neg h]⟩

/-! ### The five cases of R199, an equation for each -/

variable {sv : Sv}

/-- Case 1: the list holds the record, inactive. -/
theorem takeFault_of_inactive (h : ∃ f ∈ sv.faults, (f.code = c ∧ f.subject = sub) ∧ f.active = false) :
    sv.takeFault c sub d n =
      { sv with
        faults := sv.faults.map fun f => if f.concerns c sub then f.stamp d n else f
        notice := .allSet } :=
  if_pos (by simpa [FaultRecord.concerns_iff] using h)

/-- Case 2: the list holds the record, active. -/
theorem takeFault_of_active (h : ∃ f ∈ sv.faults, f.code = c ∧ f.subject = sub)
    (ha : ∀ f ∈ sv.faults, f.code = c ∧ f.subject = sub → f.active = true) :
    sv.takeFault c sub d n =
      { sv with faults := sv.faults.map fun f => if f.concerns c sub then f.stamp d n else f } :=
  (if_neg (by simpa [FaultRecord.concerns_iff] using ha)).trans (if_pos (by simpa [FaultRecord.concerns_iff] using h))

/-- What cases 3 to 5 have in common: no record of the report's code and subject stands in the list. -/
theorem takeFault_of_absent (h : ∀ f ∈ sv.faults, ¬(f.code = c ∧ f.subject = sub)) :
    sv.takeFault c sub d n =
      if sv.faults.length < Config.faultCapacity then
        { sv with faults := sv.faults ++ [⟨c, sub, d, n, true⟩], notice := .allSet }
      else if sv.faults.any fun f => !f.active then
        { sv with
          faults := (sv.faults.eraseP fun f => !f.active) ++ [⟨c, sub, d, n, true⟩]
          listFull := false
          notice := .allSet }
      else { sv with listFull := true, notice := .allSet } := by
  have absent : ∀ f ∈ sv.faults, f.concerns c sub = false := fun f hf =>
    Bool.eq_false_iff.2 (mt (f.concerns_iff c sub).1 (h f hf))
  have case1 : ¬(sv.faults.any fun f => f.concerns c sub && !f.active) = true := by simp +contextual [absent]
  have case2 : ¬(sv.faults.any fun f => f.concerns c sub) = true := by simp +contextual [absent]
  exact (if_neg case1).trans (if_neg case2)

/-- Case 3: a new record joins the end. -/
theorem takeFault_of_room (h : ∀ f ∈ sv.faults, ¬(f.code = c ∧ f.subject = sub)) (hroom : sv.faults.length < 16) :
    sv.takeFault c sub d n = { sv with faults := sv.faults ++ [⟨c, sub, d, n, true⟩], notice := .allSet } :=
  (takeFault_of_absent h).trans (if_pos hroom)

/-- Case 4: the inactive record nearest position 0 gives its place (R200). -/
theorem takeFault_of_replacement {before after : List FaultRecord} {old : FaultRecord}
    (h : ∀ f ∈ sv.faults, ¬(f.code = c ∧ f.subject = sub)) (hfull : 16 ≤ sv.faults.length)
    (hsplit : sv.faults = before ++ old :: after) (hb : ∀ f ∈ before, f.active = true) (ho : old.active = false) :
    sv.takeFault c sub d n =
      { sv with faults := before ++ after ++ [⟨c, sub, d, n, true⟩], listFull := false, notice := .allSet } := by
  have hany : (sv.faults.any fun f => !f.active) = true := by simp [hsplit, ho]
  have herase : (sv.faults.eraseP fun f => !f.active) = before ++ after := by
    rw [hsplit, List.eraseP_append_right _ (by simpa using hb), List.eraseP_cons_of_pos (by simp [ho])]
  have hcap : ¬sv.faults.length < Config.faultCapacity := Nat.not_lt.2 hfull
  rw [takeFault_of_absent h, if_neg hcap, if_pos hany, herase]

/-- Case 5: the fault is lost. -/
theorem takeFault_of_full (h : ∀ f ∈ sv.faults, ¬(f.code = c ∧ f.subject = sub)) (hfull : 16 ≤ sv.faults.length)
    (ha : ∀ f ∈ sv.faults, f.active = true) :
    sv.takeFault c sub d n = { sv with listFull := true, notice := .allSet } :=
  (takeFault_of_absent h).trans ((if_neg (Nat.not_lt.2 hfull)).trans (if_neg (by simpa using ha)))

end

/-! ### The report as the Supervisor takes it -/

theorem raiseFault_sv (c : FaultCode) (sub : Subject) (s : State) :
    (raiseFault c sub s).sv = s.sv.takeFault c sub (stampDistance s) s.odo.frameNo := rfl

/-- Settles O43: a report's five cases, each by its equation for `Sv.takeFault`, and the inactive report, position by
position. -/
theorem faultReportsByTheFiveCases : Obligations.FaultReportsByTheFiveCases := by
  intro c sub s at_ new same held
  have hat : stampDistance s = at_ := stampDistance_eq s
  have restamped : held s.sv.faults
      (s.sv.faults.map fun f => if f.concerns c sub then f.stamp at_ s.odo.frameNo else f) := by
    refine ⟨List.length_map _, fun i f hf => ?_⟩
    obtain ⟨hsame, hother⟩ := getElem?_map_concerns (c := c) (sub := sub) (·.stamp at_ s.odo.frameNo) hf
    exact ⟨fun h => (hsame h).trans (congrArg some (FaultRecord.stamp_eq_new h)), hother⟩
  refine ⟨raiseFault_onlySv c sub s, raiseFault_keeps c sub s, ?_⟩
  rw [raiseFault_sv, hat]
  refine ⟨fun h => ?case1, fun h ha => ?case2, fun h hroom => ?case3, fun before old after h hfull hsplit hb ho => ?case4,
    fun h hfull ha => ?case5, reportInactive_onlySv c sub s, reportInactive_keeps c sub s,
    (reportInactive_ends c sub s).onlyEnds, fun i f hf => ?inactive⟩
  case case1 => rw [takeFault_of_inactive h]; exact ⟨restamped, rfl, rfl⟩
  case case2 => rw [takeFault_of_active h ha]; exact ⟨restamped, rfl, rfl⟩
  case case3 => rw [takeFault_of_room h hroom]; exact ⟨rfl, rfl, rfl⟩
  case case4 => rw [takeFault_of_replacement h hfull hsplit hb ho]; exact ⟨rfl, rfl, rfl⟩
  case case5 => rw [takeFault_of_full h hfull ha]; exact ⟨rfl, rfl, rfl⟩
  case inactive => exact getElem?_map_concerns ({ · with active := false }) hf

end Sys2Proof.Machine

/-! # Request rows: the step, the reception of a request, and what its owner answers -/

namespace Sys2Proof.Machine

/-! ### The step -/

theorem step_of_cons {s : State} {c : Instr} {rest : List Instr} (h : s.pending = c :: rest) :
    step s = exec c (s.setPending rest) := by unfold step; rw [h]

theorem step_of_nil {s : State} (h : s.pending = []) : step s = .next (whenOn s tick) := by unfold step; rw [h]

/-- Settles O1. -/
theorem stepRunsFrontCommand : Obligations.StepRunsFrontCommand := fun _ _ _ h => step_of_cons h

/-! ### Requests -/

/-- A request row is the reception of its request. -/
theorem exec_request {i : Instr} {h : Hdr} {req : Request} (s : State) (hi : i.asRequest = some (h, req)) :
    exec i s = runRequest h req s := by
  cases i <;> simp only [Instr.asRequest, Option.some.injEq, Prod.mk.injEq, reduceCtorEq] at hi <;>
    obtain ⟨rfl, rfl⟩ := hi <;> rfl

theorem exec_request_on {i : Instr} {h : Hdr} {req : Request} {s : State} (hi : i.asRequest = some (h, req))
    (hon : s.power = .on) : exec i s = .next (receiveRequest h req s) := by
  rw [exec_request s hi, runRequest, whenOn_on hon]

/-- Every request row carries a request of a known kind. -/
theorem kind_of_asRequest {i : Instr} {h : Hdr} {req : Request} (hi : i.asRequest = some (h, req)) :
    ∃ k, req.kind = some k := by
  cases i <;> simp only [Instr.asRequest, Option.some.injEq, Prod.mk.injEq, reduceCtorEq] at hi <;>
    obtain ⟨rfl, rfl⟩ := hi <;> exact ⟨_, rfl⟩

/-- An addressed request to a ready part is answered as its judgement has it (R171). -/
theorem exec_judged {i : Instr} {h : Hdr} {req : Request} {s : State} {t : Taken} (hi : i.asRequest = some (h, req))
    (hr : Ready s) (hd : h.dest = .addressed) (ht : judge h.src req (received h s) = t) :
    exec i s = .next (inService h req t.result t.items t.state) := by
  rw [exec_request_on hi hr.1.1, receiveRequest_addressed hr hd, ht]

/-- In RUN an addressed request to a ready part is answered as its owner takes it (R171 order 5). -/
theorem exec_owner {i : Instr} {h : Hdr} {req : Request} {s : State} {t : Taken} (hi : i.asRequest = some (h, req))
    (hr : ReadyInRun s) (hd : h.dest = .addressed) (ht : ownerTakes h.src req (received h s) = t) :
    exec i s = .next (inService h req t.result t.items t.state) := by
  obtain ⟨k, hk⟩ := kind_of_asRequest hi
  exact exec_judged hi hr.1 hd ((judge_run (s := received h s) hk hr.2).trans ht)

/-- The same, with the parts of the owner's answer named. -/
theorem exec_answer {i : Instr} {h : Hdr} {req : Request} {s t : State} {r : Result} {items : List Byte}
    (hi : i.asRequest = some (h, req)) (hr : ReadyInRun s) (hd : h.dest = .addressed)
    (ht : ownerTakes h.src req (received h s) = ⟨t, r, items⟩) : exec i s = .next (inService h req r items t) :=
  exec_owner hi hr hd ht

theorem holds_received_eq (h : Hdr) (s : State) : holds (received h s) h.src = s.aa.auth.heldBy h.src :=
  holds_received h s h.src

/-- Settles O3. -/
theorem wakingAnswersNotReady : Obligations.WakingAnswersNotReady := by
  intro i h req k s hr hm hi hk hread hd
  exact exec_judged hi hr hd (judge_waking hk hm hread)

/-! ### Refusals of the owner -/

/-- Every request that needs the holder is refused to any other sender before any other check (R160). -/
theorem ownerTakes_notHolder {m : Master} {req : Request} {s : State} (hn : req.needsHolder = true)
    (hh : holds s m = false) : ownerTakes m req s = ⟨s, .notHolder, refusalItems req s⟩ := by
  cases req <;> simp only [Request.needsHolder, Bool.false_eq_true] at hn <;>
    simp [ownerTakes, takeRelease, takeOffer, takeOpenRoute, takeAppendSegment, takeCloseRoute, takePlace, takeUnlock,
      takeCalibrate, takeCentreAll, takeHold, takeResume, takeClearFaults, takeSetConfig, takeSetGain, takeModeChange,
      hh, refusalItems, Taken.refuse]

/-- The items of a refusal do not depend on the reception of the frame. -/
theorem refusalItems_received (h : Hdr) (req : Request) (s : State) :
    refusalItems req (received h s) = refusalItems req s := by cases req <;> rfl

/-- Settles O4. -/
theorem holderRequestsNeedTheHolder : Obligations.HolderRequestsNeedTheHolder := by
  intro i h req s hr hi hn hd hh
  rw [← refusalItems_received h req s]
  exact exec_answer hi hr hd (ownerTakes_notHolder hn ((holds_received_eq h s).trans hh))

/-- The answer leaves the state as it was, unless it is OK. -/
def Taken.LeavesUnlessOk (s : State) (t : Taken) : Prop := t.result ≠ .ok → t.state = s

theorem Taken.leaves_of_same (s : State) (r : Result) (items : List Byte) :
    Taken.LeavesUnlessOk s ⟨s, r, items⟩ := fun _ => rfl

theorem Taken.leaves_of_ok (s t : State) (items : List Byte) : Taken.LeavesUnlessOk s ⟨t, .ok, items⟩ :=
  fun h => absurd rfl h

open Taken in
/-- What an owner does not answer OK it leaves as it was (R172). -/
theorem ownerTakes_leaves (m : Master) (req : Request) (s : State) : (ownerTakes m req s).LeavesUnlessOk s := by
  have same := leaves_of_same s
  have ok := leaves_of_ok s
  cases req <;> unfold ownerTakes <;> dsimp only
  case claim => unfold takeClaim; split_ifs; exacts [same _ _, ok _ _, same _ _, same _ _, ok _ _]
  case release => unfold takeRelease; split_ifs; exacts [same _ _, ok _ _]
  case offer =>
    unfold takeOffer; (repeat' split)
    exacts [same _ _, same _ _, same _ _, same _ _, same _ _, ok _ _]
  case accept => unfold takeAccept; (repeat' split); exacts [ok _ _, same _ _, same _ _]
  case openRoute =>
    unfold takeOpenRoute; (repeat' split)
    exacts [same _ _, same _ _, same _ _, same _ _, ok _ _]
  case appendSegment =>
    unfold takeAppendSegment; (repeat' split)
    exacts [same _ _, same _ _, same _ _, same _ _, same _ _, ok _ _]
  case closeRoute => unfold takeCloseRoute; split_ifs; exacts [same _ _, ok _ _, ok _ _]
  case place => unfold takePlace; split_ifs; exacts [same _ _, same _ _, same _ _, ok _ _]
  case speedReference => unfold takeSpeedReference; split_ifs; exacts [ok _ _, same _ _]
  case unlock =>
    unfold takeUnlock; split_ifs
    exacts [same _ _, same _ _, same _ _, same _ _, same _ _, ok _ _]
  case calibrate =>
    unfold takeCalibrate; (repeat' split)
    exacts [same _ _, same _ _, same _ _, same _ _, ok _ _]
  case centreAll => unfold takeCentreAll; split_ifs; exacts [same _ _, ok _ _]
  case hold => unfold takeHold; (repeat' split); exacts [same _ _, same _ _, ok _ _]
  case resume => unfold takeResume; split_ifs; exacts [same _ _, ok _ _]
  case clearFaults => unfold takeClearFaults; split_ifs; exacts [same _ _, same _ _, ok _ _]
  case setConfig =>
    unfold takeSetConfig; (repeat' split)
    exacts [same _ _, same _ _, same _ _, same _ _, same _ _, ok _ _]
  case setGain => unfold takeSetGain; split_ifs; exacts [same _ _, ok _ _]
  case sleep | restart =>
    unfold takeModeChange; split_ifs
    exacts [same _ _, same _ _, same _ _, ok _ _]
  case readStatus | readPosition | readChannel | readWindow | readFaults =>
    unfold takeRead; split_ifs <;> exact same _ _
  case badLength | unknownKind => exact same _ _

/-- Settles O5. -/
theorem refusedRequestChangesNothing : Obligations.RefusedRequestChangesNothing := fun _ h req s hr hi hd =>
  ⟨_, _, _, exec_owner hi hr hd rfl, ownerTakes_leaves h.src req (received h s)⟩

/-- Settles O6: the holder passes the first check of each of these requests, and fails that of standstill. -/
theorem movingVehicleRefusesStandstillRequests : Obligations.MovingVehicleRefusesStandstillRequests := by
  intro h s hr hd hh hm
  have holder : holds (received h s) h.src = true := (holds_received_eq h s).trans hh
  have moves : atStandstill (received h s) = false := by simp [atStandstill, hm]
  refine ⟨fun f => ?_, fun n => ?_, fun n k hn => ?_, fun p c v => ?_, ?_, ?_, ?_⟩ <;>
    refine exec_answer rfl hr hd ?_
  · simp [ownerTakes, takeOpenRoute, holder, moves, Taken.refuse]
  · simp [ownerTakes, takeOffer, holder, moves, Taken.refuse]
  · simp [ownerTakes, takeCalibrate, holder, hn, moves, Taken.refuse]
  · simp only [ownerTakes, takeSetConfig, holder, moves, Bool.not_true, Bool.not_false, Bool.false_eq_true, if_false, if_true]
    rfl
  · simp [ownerTakes, takeModeChange, holder, moves, Taken.refuse]
  · simp [ownerTakes, takeModeChange, holder, moves, Taken.refuse]
  · simp [ownerTakes, takeClearFaults, holder, moves, Taken.refuse]

/-! ### Broadcasts and the queue -/

/-- The broadcasts that go on to an owner (R169). -/
theorem broadcastPasses_iff {m : Master} {req : Request} : broadcastPasses m req = true ↔
    (req.kind = some .speedReference ∧ m = .brake) ∨
      ((req.kind = some .setGain ∨ req.kind = some .hold ∨ req.kind = some .resume) ∧ m ≠ .brake) := by
  unfold broadcastPasses
  split <;> simp_all

theorem broadcast_not_read {m : Master} {req : Request} {k : Kind} (hp : broadcastPasses m req = true)
    (hk : req.kind = some k) : k.isRead = false := by
  rcases broadcastPasses_iff.1 hp with ⟨h, -⟩ | ⟨h | h | h, -⟩ <;> rw [hk, Option.some.injEq] at h <;> rw [h] <;> rfl

/-- Settles O7. -/
theorem broadcastsFilteredByKindAndSource : Obligations.BroadcastsFilteredByKindAndSource := by
  intro i h req s hr hi hd
  obtain ⟨k, hk⟩ := kind_of_asRequest hi
  rw [exec_request_on hi hr.1.1, receiveRequest_broadcast hr hd]
  refine ⟨fun hm => ?_, fun hm => ?_⟩
  · split_ifs with hp
    · exact congrArg (fun t : Taken => Host.Outcome.next t.state)
        (judge_waking (s := received h s) hk hm (broadcast_not_read hp hk))
    · rfl
  · rw [judge_run (s := received h s) hk hm]
    simp only [broadcastPasses_iff]
    rfl

/-- With a frame in service the queue is not served (R171). -/
theorem serve_of_service {s : State} (h : s.li.service.isSome = true) : serve s = s := by
  obtain ⟨v, hv⟩ := Option.isSome_iff_exists.1 h
  unfold serve
  cases s.li.queue.length <;> simp [serveUpTo, hv]

theorem passesFilter_iff {h : Hdr} {req : Request} :
    passesFilter h req = true ↔ h.dest = .addressed ∨ broadcastPasses h.src req = true := by
  unfold passesFilter
  split <;> simp [*]

/-- Settles O8. -/
theorem frameWaitsBehindTheServiceOrIsLost : Obligations.FrameWaitsBehindTheServiceOrIsLost := by
  intro i h req s hl hserv hi
  rw [exec_request_on hi hl.1, receiveRequest, if_pos hl.2, acceptFrame, presenceReload_close]
  simp only [passesFilter_iff, broadcastPasses_iff]
  congr 1
  refine if_congr Iff.rfl ?_ rfl
  rw [serve_of_service]
  · rfl
  · unfold enqueue; split_ifs <;> exact hserv

/-! ### Steering authority -/

/-- Settles O9: the rows of R148, in order. -/
theorem claimDecidedByFirstRow : Obligations.ClaimDecidedByFirstRow := by
  intro h s hr hd
  have holder := holds_received_eq h s
  refine ⟨fun hb => ?_, fun hb hh => ?_, fun hb hh hv => ?_, fun hb hv hm => ?_, fun hb hv hm => ?_⟩ <;>
    refine exec_answer rfl hr hd ?_
  · simp [ownerTakes, takeClaim, hb, Taken.refuse]
  · simp [ownerTakes, takeClaim, hb, holder, hh]
  · simp [ownerTakes, takeClaim, hb, holder, hh, hv, Taken.refuse]
  · simp [ownerTakes, takeClaim, hb, holds, Authority.heldBy, hv, atStandstill, hm, Taken.refuse]
  · have stands : ¬(h.src = .maint ∧ ¬atStandstill (received h s) = true) := fun ⟨h1, h2⟩ =>
      h2 (by simp [atStandstill, hm h1])
    simp only [ownerTakes, takeClaim, hb, holder, hv, Authority.heldBy, received_auth, ne_eq, not_true, if_false, stands,
      Bool.false_eq_true]

/-- Settles O10. -/
theorem releaseVacatesAuthority : Obligations.ReleaseVacatesAuthority := by
  intro h s hr
  have holder := holds_received_eq h s
  refine ⟨fun hd hm hh => ?_, fun hd hm hh => ?_, fun hd => ?_, fun hd hm => ?_⟩
  · refine exec_answer rfl ⟨hr, hm⟩ hd ?_
    simp only [ownerTakes, takeRelease, holder, hh, Bool.not_true, Bool.false_eq_true, if_false]
  · exact exec_answer rfl ⟨hr, hm⟩ hd (ownerTakes_notHolder rfl (holder.trans hh))
  · rw [exec_request_on rfl hr.1.1, receiveRequest_broadcast hr hd]
    rfl
  · exact exec_judged rfl hr hd (judge_waking (k := .release) rfl hm rfl)

theorem offerTarget_eq_some {n : Nat} {m : Master} : offerTarget n = some m ↔ m.address = n ∧ m ≠ .brake := by
  unfold offerTarget
  constructor
  · intro h; split at h <;> simp_all <;> subst h <;> exact ⟨rfl, nofun⟩
  · rintro ⟨rfl, h⟩
    cases m with
    | brake => exact absurd rfl h
    | _ => rfl

theorem isPresent_received {h : Hdr} {n : Master} (s : State) (hn : n ≠ h.src) :
    (received h s).aa.isPresent n = s.aa.isPresent n := by
  obtain ⟨src, d⟩ := h
  cases n <;> cases src <;> first | rfl | exact absurd rfl hn

/-- Settles O11. -/
theorem offerAndAccept : Obligations.OfferAndAccept := by
  intro h s hr hd
  refine ⟨fun target hh hst => ?_, fun m ha => ?_, fun ha => ?_⟩
  · have holder : holds (received h s) h.src = true := (holds_received_eq h s).trans hh
    have stands : atStandstill (received h s) = true := by simp [atStandstill, hst]
    refine ⟨fun n hn hb hne hp => ?_, fun hno => ?_⟩ <;> refine exec_answer rfl hr hd ?_
    · have hp' := (isPresent_received s hne).trans hp
      simp only [ownerTakes, takeOffer, holder, stands, offerTarget_eq_some.2 ⟨hn, hb⟩, hne, hp', Bool.not_true,
        Bool.false_eq_true, if_false]
      rfl
    · simp only [ownerTakes, takeOffer, holder, stands, Bool.not_true, Bool.false_eq_true, if_false]
      split
      · rfl
      · rename_i n hn
        obtain ⟨hn, hb⟩ := offerTarget_eq_some.1 hn
        by_cases hs : n = h.src
        · rw [if_pos hs]; rfl
        · have hp : (received h s).aa.isPresent n = false :=
            (isPresent_received s hs).trans (((hno n hn).resolve_left hb).resolve_left hs)
          simp only [hs, hp, if_false, Bool.not_false, if_true]; rfl
  · refine exec_answer rfl hr hd ?_
    simp only [ownerTakes, takeAccept, received_auth, ha, if_true]
  · refine exec_answer rfl hr hd ?_
    simp only [ownerTakes, takeAccept, received_auth]
    split
    · rename_i m n ho
      rw [if_neg fun e : n = h.src => ha m (e ▸ ho)]; rfl
    · rfl

end Sys2Proof.Machine

/-! # Authority timers, route requests, holds, gain and reference speed -/

namespace Sys2Proof.Machine

/-- An event row on a part that is on is what the event does. -/
theorem exec_event {c : Instr} {f : State → State} {s : State} (hon : s.power = .on)
    (he : exec c s = runEvent f s := by rfl) : exec c s = .next (f s) :=
  he.trans (congrArg Host.Outcome.next (whenOn_on hon))

/-! ### The timers of the authority (R146, R154 to R157) -/

@[simp] theorem setPresence_auth (a : Aa) (m : Master) (p : Presence) : (a.setPresence m p).auth = a.auth := by
  cases m <;> rfl

@[simp] theorem setPresence_offer (a : Aa) (m : Master) (p : Presence) : (a.setPresence m p).offer = a.offer := by
  cases m <;> rfl

theorem silence_of_holder {m : Master} {s : State} (h : s.aa.auth.heldBy m = true) :
    silence m s = raiseFault .holderSilent .none (s.setAa { s.aa with auth := .vacant, offer := none }) := if_pos h

theorem silence_of_target {m h : Master} {s : State} (hne : h ≠ m) (ha : s.aa.auth = .offered h m) :
    silence m s = s.setAa { s.aa with auth := .held h, offer := none } := by
  unfold silence; simp only [ha, Authority.heldBy, beq_iff_eq, hne, if_false, if_true]

theorem silence_of_other {m : Master} {s : State} (hh : s.aa.auth.heldBy m = false)
    (ho : ∀ h, s.aa.auth ≠ .offered h m) : silence m s = s := by
  unfold silence
  rw [if_neg (by simp [hh])]
  split
  · rename_i h n ha
    rw [if_neg fun e : n = m => ho h (e ▸ ha)]
  · rfl

theorem presenceExpiry_running {m : Master} {s : State} {p : PresenceState} {tm : Timer}
    (h : s.aa.presence m = some ⟨p, some tm⟩) :
    presenceExpiry m s = silence m (s.setAa (s.aa.setPresence m ⟨.silent, none⟩)) := by
  unfold presenceExpiry; rw [h]

theorem presenceExpiry_idle {m : Master} {s : State} (h : ∀ p tm, s.aa.presence m ≠ some ⟨p, some tm⟩) :
    presenceExpiry m s = s := by
  unfold presenceExpiry; split
  · rename_i p tm hp; exact absurd hp (h p tm)
  · rfl

/-- Settles O12. -/
theorem presenceExpiryByWhoFellSilent : Obligations.PresenceExpiryByWhoFellSilent := by
  intro m s hon
  have hexec : exec (.presenceTimerExpiry m) s = .next (presenceExpiry m s) := exec_event hon
  rw [hexec]
  refine ⟨fun p tm hp => ?_, fun h => congrArg _ (presenceExpiry_idle h)⟩
  rw [presenceExpiry_running hp]
  have auth : (s.setAa (s.aa.setPresence m ⟨.silent, none⟩)).aa.auth = s.aa.auth := setPresence_auth _ _ _
  refine ⟨fun hh => ?_, fun h hne ha => ?_, fun hh ho => ?_⟩
  · rw [silence_of_holder (by rw [auth, hh])]; rfl
  · rw [silence_of_target hne (auth.trans ha)]; rfl
  · rw [silence_of_other (by rw [auth, hh]) fun h => by rw [auth]; exact ho h]

theorem offerExpiry_running {m n : Master} {tm : Timer} {s : State} (ha : s.aa.auth = .offered m n)
    (ho : s.aa.offer = some tm) : offerExpiry s = s.setAa { s.aa with auth := .held m, offer := none } := by
  unfold offerExpiry; simp only [ha, ho]

theorem offerExpiry_not_offered {s : State} (h : ∀ m n, s.aa.auth ≠ .offered m n) : offerExpiry s = s := by
  unfold offerExpiry; split
  · rename_i m n _ ha _; exact absurd ha (h m n)
  · rfl

theorem exec_offerTimerExpiry_not_offered {s : State} (hon : s.power = .on) (h : ∀ m n, s.aa.auth ≠ .offered m n) :
    exec .offerTimerExpiry s = .next s :=
  (exec_event hon).trans (congrArg _ (offerExpiry_not_offered h))

/-- Settles O13. -/
theorem offerExpiryAndAcceptInEitherOrder : Obligations.OfferExpiryAndAcceptInEitherOrder := by
  intro m n tm s hon ha ho
  have hexpiry : exec .offerTimerExpiry s = .next (s.setAa { s.aa with auth := .held m, offer := none }) :=
    (exec_event hon).trans (congrArg _ (offerExpiry_running ha ho))
  refine ⟨hexpiry, fun hr t ht => ?_, fun hr t ht => ?_⟩
  · obtain rfl := Host.Outcome.next.inj (hexpiry.symm.trans ht)
    exact (offerAndAccept ⟨n, .addressed⟩ (s.setAa { s.aa with auth := .held m, offer := none }) hr rfl).2.2 fun _ =>
      Authority.noConfusion
  · rw [(offerAndAccept ⟨n, .addressed⟩ s hr rfl).2.1 m ha] at ht
    obtain rfl := Host.Outcome.next.inj ht
    refine ⟨rfl, rfl, exec_offerTimerExpiry_not_offered ?_ ?_⟩
    · exact hon
    · exact fun _ _ => Authority.noConfusion

/-! ### HOLD, SET_GAIN, SPEED_REFERENCE, SLEEP and RESTART -/

/-- Settles O26. -/
theorem sleepAndRestartWaitForEndOfService : Obligations.SleepAndRestartWaitForEndOfService := by
  intro h s hr hd hh hst
  have holder : holds (received h s) h.src = true := (holds_received_eq h s).trans hh
  have stands : atStandstill (received h s) = true := by simp [atStandstill, hst]
  have rests (st : ChanState) : st.atRest = true ↔ st = .locked ∨ st = .faulted .lockEngaged := by
    unfold ChanState.atRest; split <;> simp_all
  have all : allAtRest (received h s) = true ↔
      ∀ k, fitted s k = true → (s.ac.get k).state = .locked ∨ (s.ac.get k).state = .faulted .lockEngaged := by
    simp only [allAtRest, List.all_eq_true, Chan.mem_all, forall_const, Bool.or_eq_true, Bool.not_eq_true', rests,
      fitted_received, received_ac, ← Bool.not_eq_true]
    exact forall_congr' fun k => imp_iff_not_or.symm
  refine ⟨fun ha => ?_, fun k hk hl hf => ?_⟩
  · have accepted (change : PendingMode) : takeModeChange h.src change (received h s) =
        ⟨(received h s).setCt { s.ct with pendingMode := change }, .ok, []⟩ := by
      simp [takeModeChange, holder, stands, all.2 ha]
    exact ⟨exec_answer rfl hr hd (accepted .sleep), exec_answer rfl hr hd (accepted .restart)⟩
  · have refused (change : PendingMode) : takeModeChange h.src change (received h s) =
        ⟨received h s, .wrongState, []⟩ := by
      have hnot : allAtRest (received h s) = false :=
        Bool.eq_false_iff.2 fun ha => (all.1 ha k hk).elim hl hf
      simp only [takeModeChange, holder, stands, hnot, Bool.not_true, Bool.not_false, Bool.false_eq_true, if_false, if_true]
      rfl
    exact ⟨exec_answer rfl hr hd (refused .sleep), exec_answer rfl hr hd (refused .restart)⟩

theorem clamp_eq_ite (v : Int) : clamp v (-Config.refSpeedMax) Config.refSpeedMax =
    if 25000 < v then 25000 else if v < -25000 then -25000 else v := by
  simp only [clamp, Config.refSpeedMax]; split_ifs <;> omega

theorem testBit_flag (n k : Nat) : (n / 2 ^ k % 2 == 1) = n.testBit k := by
  rw [Nat.testBit_eq_decide_div_mod_eq]; rfl

/-- The brake controller's reference is stored, whoever holds authority (R57). -/
theorem takeSpeedReference_brake (v : Int) (flags : Nat) (s : State) :
    takeSpeedReference .brake v flags s = ⟨s.setOdo { s.odo with
        ref := some { v := if 25000 < v then 25000 else if v < -25000 then -25000 else v,
                      braking := flags.testBit 0, traction := flags.testBit 1, slide := flags.testBit 2,
                      spin := flags.testBit 3, age := 0, stale := false } }, .ok, []⟩ := by
  have b0 := testBit_flag flags 0; have b1 := testBit_flag flags 1
  have b2 := testBit_flag flags 2; have b3 := testBit_flag flags 3
  simp only [Nat.pow_zero, Nat.div_one, Nat.pow_one, show 2 ^ 2 = 4 from rfl, show 2 ^ 3 = 8 from rfl] at b0 b1 b2 b3
  simp only [takeSpeedReference, if_true, clamp_eq_ite, b0, b1, b2, b3]

/-- Settles O23. -/
theorem speedReferenceFromBrakeController : Obligations.SpeedReferenceFromBrakeController := by
  intro h v flags s hr stored c req
  have hrow : c.asRequest = some (h, req) := rfl
  have cast (hd : h.dest = .broadcast) := broadcastsFilteredByKindAndSource c h req s hr hrow hd
  refine ⟨fun hm hb hd => ?_, fun hm hb hd => ?_, fun hm hb hd => ?_, fun hm hb hd => ?_, fun hm hd => ?_,
    fun hm hd => (cast hd).1 hm⟩
  · exact exec_answer hrow ⟨hr, hm⟩ hd (by rw [hb]; exact takeSpeedReference_brake v flags _)
  · rw [(cast hd).2 hm, if_pos (.inl ⟨rfl, hb⟩), hb]
    exact congrArg (fun t : Taken => Host.Outcome.next t.state) (takeSpeedReference_brake v flags _)
  · exact exec_answer hrow ⟨hr, hm⟩ hd (if_neg hb)
  · rw [(cast hd).2 hm, if_neg (by simp [req, Request.kind, hb])]
  · exact exec_judged hrow hr hd (judge_waking (k := .speedReference) rfl hm rfl)

end Sys2Proof.Machine

/-! # The fault list and the Supervisor's view: what reports and derivations keep -/

namespace Sys2Proof.Machine

/-! ### The form of the fault list (R197, R198, R200) -/

/-- The form of a fault list and its list-full flag, as `FaultInv` has it of a state's. -/
def Sv.ListOk (sv : Sv) : Prop :=
  sv.faults.length ≤ 16 ∧ sv.faults.Pairwise (fun f g => ¬(f.code = g.code ∧ f.subject = g.subject)) ∧
    (∀ f ∈ sv.faults, f.code.takes f.subject = true) ∧ (sv.listFull = true → sv.faults.length = 16)

theorem FaultInv_iff (s : State) : FaultInv s ↔ s.sv.ListOk := Iff.rfl

/-- Rewriting records in place, each with its code and subject, keeps the form of the list. -/
theorem Sv.ListOk.map {sv sv' : Sv} (h : sv.ListOk) {g : FaultRecord → FaultRecord}
    (hg : ∀ f, (g f).code = f.code ∧ (g f).subject = f.subject) (hf : sv'.faults = sv.faults.map g)
    (hl : sv'.listFull = sv.listFull) : sv'.ListOk := by
  obtain ⟨hlen, hpair, htakes, hfull⟩ := h
  refine ⟨by rw [hf, List.length_map]; exact hlen, ?_, ?_, fun h => ?_⟩
  · rw [hf, List.pairwise_map]
    exact hpair.imp fun {a b} hab hc => hab (by rwa [(hg a).1, (hg a).2, (hg b).1, (hg b).2] at hc)
  · intro f hmem
    obtain ⟨f', hf', rfl⟩ := List.mem_map.1 (hf ▸ hmem)
    rw [(hg f').1, (hg f').2]; exact htakes f' hf'
  · rw [hf, List.length_map]; exact hfull (hl ▸ h)

/-- Dropping records keeps the form of the list, the list-full flag apart. -/
theorem Sv.ListOk.sublist {sv sv' : Sv} (h : sv.ListOk) (hs : sv'.faults.Sublist sv.faults)
    (hfull : sv'.listFull = true → sv'.faults.length = 16) : sv'.ListOk :=
  ⟨hs.length_le.trans h.1, h.2.1.sublist hs, fun f hf => h.2.2.1 f (hs.subset hf), hfull⟩

/-- A record of a code and subject that the list does not hold may join it, if there is room. -/
theorem Sv.ListOk.append {sv sv' : Sv} {l : List FaultRecord} {new : FaultRecord} (h : sv.ListOk)
    (hs : l.Sublist sv.faults) (habs : ∀ f ∈ sv.faults, ¬(f.code = new.code ∧ f.subject = new.subject))
    (htakes : new.code.takes new.subject = true) (hf : sv'.faults = l ++ [new]) (hlen : l.length < 16)
    (hfull : sv'.listFull = false) : sv'.ListOk := by
  refine ⟨by rw [hf, List.length_append]; exact hlen, ?_, ?_, fun h => absurd (hfull.symm.trans h) nofun⟩
  · rw [hf, List.pairwise_append]
    refine ⟨h.2.1.sublist hs, List.pairwise_singleton _ _, fun f hf' g hg => ?_⟩
    rw [List.mem_singleton.1 hg]; exact habs f (hs.subset hf')
  · intro f hmem
    rcases List.mem_append.1 (hf ▸ hmem) with hm | hm
    · exact h.2.2.1 f (hs.subset hm)
    · rw [List.mem_singleton.1 hm]; exact htakes

theorem restamp_keys (c : FaultCode) (sub : Subject) (d : Option Nat) (n : Nat) (f : FaultRecord) :
    (if f.concerns c sub then f.stamp d n else f).code = f.code ∧
      (if f.concerns c sub then f.stamp d n else f).subject = f.subject := by split_ifs <;> exact ⟨rfl, rfl⟩

/-- A report keeps the form of the list (R198 to R200). -/
theorem takeFault_listOk {sv : Sv} (h : sv.ListOk) {c : FaultCode} {sub : Subject} (ht : c.takes sub = true)
    (d : Option Nat) (n : Nat) : (sv.takeFault c sub d n).ListOk := by
  by_cases hin : ∃ f ∈ sv.faults, f.code = c ∧ f.subject = sub
  · by_cases ha : ∃ f ∈ sv.faults, (f.code = c ∧ f.subject = sub) ∧ f.active = false
    · rw [takeFault_of_inactive ha]; exact h.map (restamp_keys c sub d n) rfl rfl
    · push Not at ha
      rw [takeFault_of_active hin fun f hf hs => by simpa using ha f hf hs]
      exact h.map (restamp_keys c sub d n) rfl rfl
  · have habs : ∀ f ∈ sv.faults, ¬(f.code = c ∧ f.subject = sub) := fun f hf hs => hin ⟨f, hf, hs⟩
    rw [takeFault_of_absent habs]
    split_ifs with hroom hany
    · refine h.append (List.Sublist.refl _) habs ht rfl hroom (Bool.eq_false_iff.2 fun hl => ?_)
      exact absurd (h.2.2.2 hl) (Nat.ne_of_lt hroom)
    · refine h.append (List.eraseP_sublist) habs ht rfl ?_ rfl
      obtain ⟨f, hf, hp⟩ := List.any_eq_true.1 hany
      rw [List.length_eraseP_of_mem hf hp]
      have := h.1; omega
    · exact ⟨h.1, h.2.1, h.2.2.1, fun _ => Nat.le_antisymm h.1 (Nat.not_lt.1 hroom)⟩

theorem raiseFault_faultInv {s : State} (h : FaultInv s) {c : FaultCode} {sub : Subject} (ht : c.takes sub = true) :
    FaultInv (raiseFault c sub s) := takeFault_listOk h ht _ _

theorem reportInactive_faultInv {s : State} (h : FaultInv s) (c : FaultCode) (sub : Subject) :
    FaultInv (reportInactive c sub s) :=
  Sv.ListOk.map h (g := fun f => if f.concerns c sub then { f with active := false } else f)
    (fun f => by split_ifs <;> exact ⟨rfl, rfl⟩) rfl rfl

theorem removeInactive_faultInv {s : State} (h : FaultInv s) : FaultInv (s.setSv s.sv.removeInactive) := by
  refine Sv.ListOk.sublist h List.filter_sublist fun hl => ?_
  by_cases hany : (s.sv.faults.any fun f => !f.active) = true
  · exact absurd hl (by simp [Sv.removeInactive, hany])
  · have hkeep : s.sv.removeInactive.faults = s.sv.faults := by
      rw [Sv.removeInactive, List.filter_eq_self]; simpa using hany
    rw [State.setSv_sv, Sv.removeInactive, if_neg hany] at hl
    rw [State.setSv_sv, hkeep]; exact h.2.2.2 hl

/-! ### The record of HORIZON_SHORTFALL through a step (R140) -/

/-- The records of the list that are not those of HORIZON_SHORTFALL. -/
def others (l : List FaultRecord) : List FaultRecord := l.filter fun f => f.code != .horizonShortfall

/-- What a step has made of HORIZON_SHORTFALL since `s₀`: where its condition has come to be met its record stands, active
and stamped, if the list had room for it; where it has ceased to be met no record of it is active. -/
def TracksShortfall (exact : Prop) (s₀ s : State) : Prop :=
  (s₀.sv.shortfall = false → s.sv.shortfall = true → (others s₀.sv.faults).length < 16 →
      (others s.sv.faults).length < 16 → ∃ f ∈ s.sv.faults, f.code = .horizonShortfall ∧ f.subject = .none ∧ f.active = true ∧
        f.frame = s.odo.frameNo ∧ f.distance.isSome = true ∧ (exact → f.distance = some (s.odo.r / 1000))) ∧
    (s₀.sv.shortfall = true → s.sv.shortfall = false → ∀ f ∈ s.sv.faults, f.code = .horizonShortfall → f.active = false)

theorem TracksShortfall.start (exact : Prop) {s₀ s : State} (h : s.sv.shortfall = s₀.sv.shortfall) :
    TracksShortfall exact s₀ s :=
  ⟨fun h0 h1 => absurd (h0.symm.trans (h.symm.trans h1)) nofun,
    fun h0 h1 => absurd (h0.symm.trans (h.symm.trans h1)) nofun⟩

/-- Reports that leave the records of HORIZON_SHORTFALL as they are, and take no other record away, keep the track. -/
theorem TracksShortfall.of_others {exact : Prop} {s₀ s t : State} (h : TracksShortfall exact s₀ s)
    (hs : t.sv.shortfall = s.sv.shortfall) (hn : t.odo.frameNo = s.odo.frameNo) (hr : exact → t.odo.r = s.odo.r)
    (hkeep : ∀ f ∈ s.sv.faults, f.code = .horizonShortfall → f.active = true → f ∈ t.sv.faults)
    (hnone : ∀ f ∈ t.sv.faults, f.code = .horizonShortfall → f.active = true → f ∈ s.sv.faults)
    (hlen : (others s₀.sv.faults).length < 16 → (others t.sv.faults).length < 16 → (others s.sv.faults).length < 16) :
    TracksShortfall exact s₀ t := by
  refine ⟨fun h0 h1 hl0 hl => ?_, fun h0 h1 f hf hc => ?_⟩
  · obtain ⟨f, hf, hc, hsub, ha, hfr, hd, he⟩ := h.1 h0 (hs ▸ h1) hl0 (hlen hl0 hl)
    exact ⟨f, hkeep f hf hc ha, hc, hsub, ha, hfr.trans hn.symm, hd, fun e => by rw [hr e]; exact he e⟩
  · by_contra hact
    have hact : f.active = true := by simpa using hact
    exact absurd (h.2 h0 (hs ▸ h1) f (hnone f hf hc hact) hc) (by simp [hact])

theorem others_map_length {l : List FaultRecord} {g : FaultRecord → FaultRecord} (hg : ∀ f, (g f).code = f.code) :
    (others (l.map g)).length = (others l).length := by
  unfold others
  rw [List.filter_map, List.length_map]
  congr 1
  exact List.filter_congr fun f _ => by rw [Function.comp_apply, hg]

/-- An erasure takes at most one record of another code away. -/
theorem others_eraseP_length (l : List FaultRecord) (p : FaultRecord → Bool) :
    (others l).length ≤ (others (l.eraseP p)).length + 1 := by
  by_cases hx : ∃ x ∈ l, p x = true
  · obtain ⟨x, hmem, hp⟩ := hx
    obtain ⟨y, l1, l2, -, -, rfl, he⟩ := List.exists_of_eraseP hmem hp
    rw [he]; simp only [others, List.filter_append, List.filter_cons, List.length_append]
    split_ifs <;> simp <;> omega
  · rw [List.eraseP_of_forall_not fun a ha hp => hx ⟨a, ha, hp⟩]; exact Nat.le_succ _

/-- A report of another code takes no record of HORIZON_SHORTFALL that is active, makes none active, and leaves at least as
many others. -/
theorem takeFault_other {sv : Sv} {c : FaultCode} (hc : c ≠ .horizonShortfall) (sub : Subject) (d : Option Nat) (n : Nat) :
    (∀ f ∈ sv.faults, f.code = .horizonShortfall → f.active = true → f ∈ (sv.takeFault c sub d n).faults) ∧
      (∀ f ∈ (sv.takeFault c sub d n).faults, f.code = .horizonShortfall → f.active = true → f ∈ sv.faults) ∧
      (others sv.faults).length ≤ (others (sv.takeFault c sub d n).faults).length := by
  have untouched {f : FaultRecord} (hf : f.code = .horizonShortfall) : f.concerns c sub = false :=
    Bool.eq_false_iff.2 fun h => hc (((f.concerns_iff c sub).1 h).1.symm.trans hf)
  have restamped :
      (∀ f ∈ sv.faults, f.code = .horizonShortfall → f.active = true →
        f ∈ sv.faults.map fun f => if f.concerns c sub then f.stamp d n else f) ∧
      (∀ f ∈ (sv.faults.map fun f => if f.concerns c sub then f.stamp d n else f), f.code = .horizonShortfall →
        f.active = true → f ∈ sv.faults) ∧
      (others sv.faults).length ≤ (others (sv.faults.map fun f => if f.concerns c sub then f.stamp d n else f)).length := by
    refine ⟨fun f hf hcode _ => List.mem_map.2 ⟨f, hf, by simp [untouched hcode]⟩, fun f hf hcode _ => ?_,
      le_of_eq (others_map_length fun f => (restamp_keys c sub d n f).1).symm⟩
    obtain ⟨g, hg, rfl⟩ := List.mem_map.1 hf
    rw [(restamp_keys c sub d n g).1] at hcode
    simpa [untouched hcode] using hg
  have joined (l : List FaultRecord) (f : FaultRecord) (hf : f ∈ l ++ [⟨c, sub, d, n, true⟩])
      (hcode : f.code = .horizonShortfall) : f ∈ l := by
    rcases List.mem_append.1 hf with h | h
    · exact h
    · rw [List.mem_singleton.1 h] at hcode; exact absurd hcode hc
  unfold Sv.takeFault; dsimp only
  split_ifs
  · exact restamped
  · exact restamped
  · exact ⟨fun f hf _ _ => List.mem_append_left _ hf, fun f hf hcode _ => joined _ f hf hcode, by simp [others]⟩
  · refine ⟨fun f hf _ ha => List.mem_append_left _ ((List.mem_eraseP_of_neg (by simp [ha])).2 hf),
      fun f hf hcode _ => List.mem_of_mem_eraseP (joined _ f hf hcode), ?_⟩
    have := others_eraseP_length sv.faults fun f => !f.active
    simp only [others, List.filter_append] at this ⊢
    simpa [hc] using this
  · exact ⟨fun f hf _ _ => hf, fun f hf _ _ => hf, le_rfl⟩

theorem TracksShortfall.raise {exact : Prop} {s₀ s : State} (h : TracksShortfall exact s₀ s) {c : FaultCode}
    (hc : c ≠ .horizonShortfall) (sub : Subject) : TracksShortfall exact s₀ (raiseFault c sub s) := by
  obtain ⟨hkeep, hnone, hlen⟩ := takeFault_other (sv := s.sv) hc sub (stampDistance s) s.odo.frameNo
  exact h.of_others (takeFault_keeps _ _ _ _ _).2.2.2.2.2.2.2 rfl (fun _ => rfl) hkeep hnone fun _ hl => hlen.trans_lt hl

theorem TracksShortfall.inactive {exact : Prop} {s₀ s : State} (h : TracksShortfall exact s₀ s) {c : FaultCode}
    (hc : c ≠ .horizonShortfall) (sub : Subject) : TracksShortfall exact s₀ (reportInactive c sub s) := by
  refine h.of_others rfl rfl (fun _ => rfl) (fun f hf hcode _ => ?_) (fun f hf _ ha => ?_) fun _ hl => ?_
  · refine List.mem_map.2 ⟨f, hf, if_neg fun hcon => ?_⟩
    exact hc (((f.concerns_iff c sub).1 hcon).1.symm.trans hcode)
  · obtain ⟨g, hg, rfl⟩ := List.mem_map.1 hf
    split_ifs at ha ⊢
    exact hg
  · rwa [← others_map_length (l := s.sv.faults) (g := fun f => if f.concerns c sub then { f with active := false } else f)
      fun f => by split_ifs <;> rfl]

theorem takes_shortfall {sub : Subject} (h : FaultCode.horizonShortfall.takes sub = true) : sub = .none := by
  cases sub with
  | none => rfl
  | _ => exact absurd h (by simp [FaultCode.takes, channelCodes])

/-- HORIZON_SHORTFALL reported with room for it: its record stands, active, stamped anew. -/
theorem raiseFault_shortfall {s : State} (hf : FaultInv s)
    (hl : (others (raiseFault .horizonShortfall .none s).sv.faults).length < 16) :
    ∃ f ∈ (raiseFault .horizonShortfall .none s).sv.faults, f.code = .horizonShortfall ∧ f.subject = .none ∧
      f.active = true ∧ f.frame = s.odo.frameNo ∧ f.distance = stampDistance s := by
  have restamped (h : ∃ f ∈ s.sv.faults, f.code = .horizonShortfall ∧ f.subject = .none) :
      ∃ f ∈ s.sv.faults.map (fun f => if f.concerns .horizonShortfall .none then
          f.stamp (stampDistance s) s.odo.frameNo else f), f.code = .horizonShortfall ∧ f.subject = .none ∧
        f.active = true ∧ f.frame = s.odo.frameNo ∧ f.distance = stampDistance s := by
    obtain ⟨f, hf, hc⟩ := h
    exact ⟨_, List.mem_map_of_mem hf, by rw [if_pos ((f.concerns_iff _ _).2 hc)]; exact ⟨hc.1, hc.2, rfl, rfl, rfl⟩⟩
  have joined (l : List FaultRecord) : ∃ f ∈ l ++ [⟨.horizonShortfall, .none, stampDistance s, s.odo.frameNo, true⟩],
      f.code = FaultCode.horizonShortfall ∧ f.subject = .none ∧ f.active = true ∧ f.frame = s.odo.frameNo ∧
        f.distance = stampDistance s :=
    ⟨_, List.mem_append_right _ (List.mem_singleton_self _), rfl, rfl, rfl, rfl, rfl⟩
  rw [raiseFault_sv] at hl ⊢
  by_cases hin : ∃ f ∈ s.sv.faults, f.code = .horizonShortfall ∧ f.subject = .none
  · by_cases ha : ∃ f ∈ s.sv.faults, (f.code = .horizonShortfall ∧ f.subject = .none) ∧ f.active = false
    · rw [takeFault_of_inactive ha]; exact restamped hin
    · push Not at ha
      rw [takeFault_of_active hin fun f hf hs => by simpa using ha f hf hs]; exact restamped hin
  · have habs : ∀ f ∈ s.sv.faults, ¬(f.code = .horizonShortfall ∧ f.subject = .none) := fun f hf hs => hin ⟨f, hf, hs⟩
    have hother : others s.sv.faults = s.sv.faults := by
      refine List.filter_eq_self.2 fun f hmem => ?_
      by_contra hc
      have hc : f.code = .horizonShortfall := by simpa using hc
      exact habs f hmem ⟨hc, takes_shortfall (hc ▸ hf.2.2.1 f hmem)⟩
    rw [takeFault_of_absent habs] at hl ⊢
    split_ifs at hl ⊢ with hroom hany
    · exact joined _
    · exact joined _
    · rw [hother] at hl; exact absurd hl hroom

/-! ### What the Supervisor has been told, and what it derives (R91, R126, R127) -/

/-- The states and the marks of the view are the channels'. -/
def Seen (s : State) : Prop :=
  ∀ k, (s.sv.view.get k).state = (s.ac.get k).state ∧ (s.sv.view.get k).mark = (s.ac.get k).mark

/-- The sources of the view are the schedule's, for the channels that `fit` names. -/
def SourcesSeen (fit : Chan → Bool) (s : State) : Prop :=
  ∀ k, fit k = true → (s.sv.view.get k).source = (s.ss.get k).source

/-- The route-open flag and the confidence are the blocks'. -/
def RouteSeen (s : State) : Prop := s.sv.routeOpen = s.rw.isOpen ∧ s.sv.conf = s.pfu.conf

/-- Steering mode, level and shortfall condition are those of R136, R137 and R140. -/
def Derived (s : State) : Prop :=
  s.sv.steering = steeringModeOf s.ct.table s.sv.view ∧ s.sv.level = levelOf s.ct.table s.sv.view s.sv.latch ∧
    s.sv.shortfall = shortfallOf s.ct.table s.sv.view s.sv.routeOpen s.sv.conf

theorem ViewInv_iff (s : State) : ViewInv s ↔ Seen s ∧ SourcesSeen (fitted s) s ∧ RouteSeen s ∧ Derived s := by
  unfold ViewInv Seen SourcesSeen RouteSeen Derived
  tauto

theorem derive_sv (s : State) : (derive s).sv.view = s.sv.view ∧ (derive s).sv.routeOpen = s.sv.routeOpen ∧
    (derive s).sv.conf = s.sv.conf ∧ (derive s).sv.latch = s.sv.latch ∧ (derive s).sv.hold = s.sv.hold := by
  have kept (s' : State) := takeFault_keeps s'.sv .horizonShortfall .none (stampDistance s') s'.odo.frameNo
  unfold derive; dsimp only; split_ifs
  · exact ⟨(kept _).2.2.1, (kept _).2.2.2.1, (kept _).2.2.2.2.1, (kept _).2.1, (kept _).1⟩
  · exact ⟨rfl, rfl, rfl, rfl, rfl⟩
  · exact ⟨rfl, rfl, rfl, rfl, rfl⟩

theorem derive_ct (s : State) : (derive s).ct = s.ct := (derive_onlySv s).2.2.2.2.2.2.2.2.1

theorem derive_derives (s : State) : Derived (derive s) := by
  obtain ⟨hv, hr, hc, hl, -⟩ := derive_sv s
  obtain ⟨h1, h2, h3⟩ := derive_derived s
  unfold Derived
  rw [hv, hr, hc, hl, derive_ct]
  exact ⟨h1, h2, h3⟩

/-- The state with what R136, R137 and R140 give for its view, nothing reported. -/
def rederived (s : State) : State :=
  s.setSv { s.sv with
    steering := steeringModeOf s.ct.table s.sv.view
    level := levelOf s.ct.table s.sv.view s.sv.latch
    shortfall := shortfallOf s.ct.table s.sv.view s.sv.routeOpen s.sv.conf }

theorem derive_eq (s : State) : derive s =
    if shortfallOf s.ct.table s.sv.view s.sv.routeOpen s.sv.conf && !s.sv.shortfall then
      raiseFault .horizonShortfall .none (rederived s)
    else if !shortfallOf s.ct.table s.sv.view s.sv.routeOpen s.sv.conf && s.sv.shortfall then
      reportInactive .horizonShortfall .none (rederived s)
    else rederived s := rfl

/-- A derivation in which the condition is met with the confidence PLACED, as the condition has it. -/
theorem shortfallOf_placed {t : ConfigTable} {view : Quad ChanView} {isOpen : Bool} {c : Confidence}
    (h : shortfallOf t view isOpen c = true) : isOpen = true ∧ c = .placed ∧
      someFitted t view (fun v => v.state.steers && v.source.isShort) = true := by
  simpa [shortfallOf, and_assoc] using h

theorem derive_faultInv {s : State} (h : FaultInv s) : FaultInv (derive s) := by
  have h' : FaultInv (rederived s) := h
  rw [derive_eq]; split_ifs
  · exact raiseFault_faultInv h' rfl
  · exact reportInactive_faultInv h' _ _
  · exact h'

/-- A derivation keeps the track of HORIZON_SHORTFALL: it is the one operation that reports it (R140). -/
theorem TracksShortfall.derive {exact : Prop} {s₀ s : State} (h : TracksShortfall exact s₀ s) (hf : FaultInv s)
    (hc : s.sv.conf = s.pfu.conf) : TracksShortfall exact s₀ (derive s) := by
  have hnew := (derive_derived s).2.2
  cases hold : s.sv.shortfall <;> cases hmet : (Machine.derive s).sv.shortfall
  case false.true =>
    refine ⟨fun _ _ _ hl => ?_, fun _ h1 => absurd (hmet.symm.trans h1) nofun⟩
    have hconf := (shortfallOf_placed (hnew.symm.trans hmet)).2.1
    have hr : Machine.derive s = raiseFault .horizonShortfall .none (rederived s) := by
      simp only [derive_eq, hnew.symm.trans hmet, hold, Bool.not_false, Bool.and_self, if_true]
    rw [hr] at hl ⊢
    obtain ⟨f, hmem, hcode, hsub, ha, hfr, hd⟩ := raiseFault_shortfall (s := rederived s) hf hl
    have hd : f.distance = some (s.odo.r / 1000) := by
      rw [hd, stampDistance_eq, if_neg]; rfl
      rw [show (rederived s).pfu = s.pfu from rfl, ← hc, hconf]; exact nofun
    exact ⟨f, hmem, hcode, hsub, ha, hfr, by rw [hd]; rfl, fun _ => hd⟩
  case true.false =>
    refine ⟨fun _ h1 => absurd (hmet.symm.trans h1) nofun, fun _ _ f hmem hcode => ?_⟩
    exact derive_ends s hold hmet f hmem hcode (takes_shortfall (hcode ▸ (derive_faultInv hf).2.2.1 f hmem))
  all_goals
    have hsame : (Machine.derive s).sv.faults = s.sv.faults := by
      simp only [derive_eq, hnew.symm.trans hmet, hold, Bool.not_false, Bool.not_true, Bool.and_false, Bool.and_true,
        Bool.false_eq_true, if_false]
      rfl
    have hfr : (Machine.derive s).odo = s.odo := (derive_onlySv s).2.2.2.2.1
    exact h.of_others (hmet.trans hold.symm) (by rw [hfr]) (fun _ => by rw [hfr]) (fun f hf _ _ => by rwa [hsame])
      (fun f hf _ _ => by rwa [← hsame]) fun _ hl => by rwa [← hsame]

end Sys2Proof.Machine

/-! # States that meet the invariants: after reset, and two that refute a statement -/

namespace Sys2Proof.Machine

/-! ### Concrete states that meet the invariants -/

/-- A fact about the four channels, each checked. -/
theorem Chan.forall_of_all {p : Chan → Prop} (h : ∀ k ∈ Chan.all, p k) (k : Chan) : p k := h k (Chan.mem_all k)

/-- The defaults of R182 lie in their ranges. -/
theorem default_admits (p : ParamRef) : p.admits (p.get ConfigTable.default) = true := by
  rcases p with p | ⟨p, k⟩
  · cases p <;> decide
  · cases p <;> cases k <;> decide

/-- A closed window with nothing placed (R26, R72). -/
theorem windowInv_of_closed {s : State} (hr : s.rw = Rw.reset) (hc : s.pfu.conf = .unplaced) : WindowInv s := by
  unfold WindowInv
  rw [hr, hc]
  exact ⟨by decide, nofun, by decide, by decide, by decide, trivial, fun _ => rfl, by decide⟩

theorem faultInv_of_nil {s : State} (hf : s.sv.faults = []) (hl : s.sv.listFull = false) : FaultInv s := by
  unfold FaultInv
  rw [hf, hl]
  exact ⟨by decide, .nil, nofun, nofun⟩

theorem authorityInv_of_reset {s : State} (h : s.aa = Aa.reset) : AuthorityInv s := by
  unfold AuthorityInv
  rw [h]
  exact ⟨rfl, fun _ => rfl, fun _ => by decide⟩

/-- `RangeInv` of a state with nothing handed over, from tests that a concrete state decides. -/
theorem rangeInv_of_tests {s : State} (hc : ∀ k ∈ Chan.all, (s.ac.get k).within = true)
    (hs : ∀ k ∈ Chan.all, (s.ss.get k).carried.natAbs ≤ 125000 ∧ (s.ss.get k).carry ≤ Config.carryMax)
    (hp : s.path.atSs = []) (ho : s.odo = Odo.reset) (hf : s.pfu = Pfu.reset) (h1 : s.li.ones ≤ Config.replyOnes)
    (hq : s.li.queue.length ≤ Config.queueDepth) : RangeInv s := by
  unfold RangeInv
  rw [ho, hf, hp]
  refine ⟨by decide, by decide, fun k => Channel.RangeInv_iff.2 (hc k (Chan.mem_all k)),
    fun k => (hs k (Chan.mem_all k)).1, fun _ h => absurd h List.not_mem_nil, h1, by decide, by decide, by decide,
    by decide, by decide, by decide, by decide, by decide, by decide,
    fun k => (hs k (Chan.mem_all k)).2, hq⟩

/-! ### O57 -/

/-- RUN at standstill under cab A, every channel LOCKED; the reply to a READ_STATUS is being sent, and a SLEEP of cab A waits
as a broadcast. The invariants say nothing of what waits. -/
def sleepWaitsAsBroadcast : State :=
  { State.reset with
    ct := { Ct.reset with mode := .run, stab := none }
    aa := { Aa.reset with auth := .held .cabA, p1 := ⟨.present, some ⟨200, 0⟩⟩ }
    ac := Quad.build fun _ => { Channel.reset .engaged .centre with state := .locked }
    sv := { Sv.reset with view := Quad.build fun _ => ⟨.locked, false, .carried⟩ }
    li := { Li.reset 0 with
      receiver := .stopped
      service := some ⟨⟨.cabA, .addressed⟩, .readStatus, 0, .ok, [], some ⟨.ok, summaryFor .cabA State.reset, []⟩⟩
      queue := [⟨⟨.cabA, .broadcast⟩, .sleep, 0⟩] }
    pending := [.endOfService] }

theorem sleepWaitsAsBroadcast_view : ViewInv sleepWaitsAsBroadcast :=
  ⟨Chan.forall_of_all (by decide), fun k _ => Chan.forall_of_all (p := fun k =>
    (sleepWaitsAsBroadcast.sv.view.get k).source = (sleepWaitsAsBroadcast.ss.get k).source) (by decide) k, by decide⟩

theorem sleepWaitsAsBroadcast_target : TargetInv sleepWaitsAsBroadcast := by
  refine ⟨Chan.forall_of_all fun k hk => ?_, Chan.forall_of_all (by decide), fun h => absurd rfl h, fun h => absurd rfl h,
    by decide⟩
  unfold Channel.TargetInv
  revert k
  decide

theorem sleepWaitsAsBroadcast_inv : Inv sleepWaitsAsBroadcast := by
  refine ⟨windowInv_of_closed rfl rfl, faultInv_of_nil rfl rfl, ?_, ?_,
    sleepWaitsAsBroadcast_target, ⟨default_admits, by decide⟩,
    rangeInv_of_tests (by decide) (by decide) rfl rfl rfl (by decide) (by decide), sleepWaitsAsBroadcast_view, ?_⟩
  · exact ⟨⟨by decide, rfl⟩, by decide, fun _ => by decide⟩
  · exact ⟨Chan.forall_of_all (by decide), nofun⟩
  · exact fun _ => by decide

/-- The end of the service dispatches the waiting SLEEP, whose mode change is then pending with no frame in service. -/
theorem sleepWaitsAsBroadcast_step : ∃ t, step sleepWaitsAsBroadcast = .next t ∧ t.ct.pendingMode = .sleep ∧
    t.li.service = none := ⟨_, rfl, by decide, by decide⟩

/-- Refutes O57: a mode change that a waiting broadcast brings is pending while no frame is in service. -/
theorem not_targetsMoveOnlyAtDeliveriesBySlewSteps : ¬ Obligations.TargetsMoveOnlyAtDeliveriesBySlewSteps := by
  intro h
  obtain ⟨t, hstep, hpending, hserv⟩ := sleepWaitsAsBroadcast_step
  obtain ⟨⟨-, -, -, hpend, -⟩, -⟩ := h sleepWaitsAsBroadcast t sleepWaitsAsBroadcast_inv hstep
  have := (hpend (by rw [hpending]; exact nofun)).1
  rw [hserv] at this
  exact absurd this nofun

/-! ### O53 -/

/-- C1 centres with its target at 100 and its centring timer past the homing limit of 300 already, as a sample arrives. -/
def centringTimerStandsLate : State :=
  { State.reset with
    ct := { Ct.reset with mode := .run, stab := none }
    ac := State.reset.ac.set .c1 { Channel.reset .between .centre with
      state := .centring .stepping, theta := 100, centringT := some 300 }
    path := { Path.empty with
      atSs := [⟨⟨0, 0, .agreed, .standstill, false⟩, Quad.build fun _ => .noRoute⟩] } }

/-- The delivery finds the timer at its limit, although the target has not come to 0: the engaging phase begins. -/
theorem centringTimerStandsLate_step : ∃ t, exec .sampleAtSs centringTimerStandsLate = .next t ∧
    (t.ac.get .c1).state = .centring .engaging := ⟨_, rfl, by decide⟩

/-- The statement's own account of that delivery leaves the channel stepping. -/
theorem afterDelivery_centringTimerStandsLate (v1 v2 v3 v4 : Int) :
    ((afterDelivery centringTimerStandsLate .c4 v4 (afterDelivery centringTimerStandsLate .c3 v3
      (afterDelivery centringTimerStandsLate .c2 v2 (afterDelivery centringTimerStandsLate .c1 v1
        centringTimerStandsLate.ac)))).get .c1).state = .centring .stepping := rfl

/-- Refutes O53: where the centring timer of a channel stands at its limit with the target not yet 0, a delivery ends the
stepping phase, since the timer's limit is compared whether or not that delivery counts it. -/
theorem not_channelThresholds : ¬ Obligations.ChannelThresholds := by
  intro h
  obtain ⟨-, -, -, -, -, -, -, -, -, -, -, -, hsample, -⟩ := h .c1 centringTimerStandsLate rfl
  have hbogie : BogieInv centringTimerStandsLate := ⟨Chan.forall_of_all (by decide), nofun⟩
  obtain ⟨t, ht, hac⟩ := hsample _ _ rfl hbogie (by decide)
  obtain ⟨t', ht', hstate⟩ := centringTimerStandsLate_step
  obtain rfl := Host.Outcome.next.inj (ht.symm.trans ht')
  have hq := (hac _ _ _ _ rfl rfl rfl rfl).1
  rw [hq, afterDelivery_centringTimerStandsLate] at hstate
  exact absurd hstate nofun

/-! ### O60 -/

/-- A channel after reset, whatever its sensors read. -/
theorem Channel.reset_within (c : Contact) (x : Centre) : (Channel.reset c x).within = true := by
  simp [Channel.within, Channel.reset, Drive.within, Config.zeroCodeReset]

section

variable (straps : Nat) (readings : Quad (Contact × Centre))

theorem afterReset_each {p : Channel → Prop} (h : ∀ c x, p (Channel.reset c x)) (k : Chan) :
    p ((State.afterReset straps readings).ac.get k) := by cases k <;> exact h _ _

@[simp] theorem afterReset_ss (k : Chan) : (State.afterReset straps readings).ss.get k = SsRec.reset := by cases k <;> rfl

@[simp] theorem afterReset_view (k : Chan) : (State.afterReset straps readings).sv.view.get k = ChanView.reset := by
  cases k <;> rfl

@[simp] theorem afterReset_fitted (k : Chan) : fitted (State.afterReset straps readings) k = true := by cases k <;> rfl

theorem afterReset_state (k : Chan) : ((State.afterReset straps readings).ac.get k).state = .unhomed :=
  afterReset_each straps readings (p := (·.state = .unhomed)) (fun _ _ => rfl) k

theorem afterReset_bogieInv : BogieInv (State.afterReset straps readings) :=
  ⟨fun k _ => by rw [afterReset_state]; rfl, nofun⟩

theorem afterReset_targetInv : TargetInv (State.afterReset straps readings) := by
  refine ⟨fun k => ?_, fun k => by simp [afterReset_state], fun _ k _ => afterReset_state straps readings k,
    fun h => absurd rfl h, of_decide_eq_true rfl⟩
  exact afterReset_each straps readings (p := fun ch => ch.TargetInv _)
    (fun _ _ => ⟨fun _ => rfl, fun _ _ _ => rfl, Nat.zero_le _⟩) k

theorem afterReset_rangeInv : RangeInv (State.afterReset straps readings) :=
  rangeInv_of_tests (fun k _ => afterReset_each straps readings (p := (·.within = true)) Channel.reset_within k)
    (fun k _ => by rw [afterReset_ss]; decide) rfl rfl rfl (Nat.zero_le _) (Nat.zero_le _)

theorem afterReset_viewInv : ViewInv (State.afterReset straps readings) := by
  refine ⟨fun k => ?_, fun k _ => by rw [afterReset_view, afterReset_ss]; rfl, rfl, rfl, rfl, rfl, rfl⟩
  rw [afterReset_view]
  exact afterReset_each straps readings
    (p := fun ch => ChanView.reset.state = ch.state ∧ ChanView.reset.mark = ch.mark) (fun _ _ => ⟨rfl, rfl⟩) k

theorem afterReset_lineInv : LineInv (State.afterReset straps readings) := fun _ =>
  ⟨fun _ => rfl, Nat.zero_le _, nofun, ⟨nofun, fun h => h.elim nofun nofun⟩, nofun, nofun, nofun⟩

/-- The state after a power-on reset meets every invariant, whatever the straps and the sensors read. -/
theorem afterReset_inv : Inv (State.afterReset straps readings) :=
  ⟨windowInv_of_closed rfl rfl, faultInv_of_nil rfl rfl, authorityInv_of_reset rfl, afterReset_bogieInv straps readings,
    afterReset_targetInv straps readings, ⟨default_admits, le_refl 100⟩, afterReset_rangeInv straps readings,
    afterReset_viewInv straps readings, afterReset_lineInv straps readings⟩

end

/-- Settles O60. -/
theorem resetMeetsTheInvariants : Obligations.ResetMeetsTheInvariants := afterReset_inv 0 _

end Sys2Proof.Machine

/-! # The channels' operations keep the ranges of a channel's record (R90) -/

namespace Sys2Proof.Machine

/-! ### What the ranges of R182 give -/

section

variable {t : ConfigTable} (h : ∀ p : ParamRef, p.admits (p.get t) = true)

include h

theorem admitted_bounds (p : ParamRef) : p.range.1 ≤ p.get t ∧ p.get t ≤ p.range.2 := by
  simpa [ParamRef.admits] using h p

theorem homingLimit_le : t.homingLimit ≤ 1000 := Int.ofNat_le.1 (admitted_bounds h (.part .homingLimit)).2
theorem lockTime_le : t.lockTime ≤ 100 := Int.ofNat_le.1 (admitted_bounds h (.part .lockTime)).2
theorem le_lockTime : 5 ≤ t.lockTime := Int.ofNat_le.1 (admitted_bounds h (.part .lockTime)).1
theorem settleFrames_le : t.settleFrames ≤ 50 := Int.ofNat_le.1 (admitted_bounds h (.part .settleFrames)).2
theorem uFix_le : t.uFix ≤ 1000 := Int.ofNat_le.1 (admitted_bounds h (.part .uFix)).2
theorem lambda_le (x : Tacho) : t.lambda.get x ≤ 40000 := by
  cases x
  exacts [Int.ofNat_le.1 (admitted_bounds h (.part .lambda1)).2, Int.ofNat_le.1 (admitted_bounds h (.part .lambda2)).2]
theorem angleLimit_le (k : Chan) : (t.chan.get k).angleLimit ≤ 800 :=
  Int.ofNat_le.1 (admitted_bounds h (.chan .angleLimit k)).2
theorem persistLimit_le (k : Chan) : (t.chan.get k).persistLimit ≤ 100 :=
  Int.ofNat_le.1 (admitted_bounds h (.chan .persistLimit k)).2
theorem homingDuty_le (k : Chan) : (t.chan.get k).homingDuty ≤ 500 :=
  Int.ofNat_le.1 (admitted_bounds h (.chan .homingDuty k)).2
theorem dmax_le (k : Chan) : (t.chan.get k).dmax ≤ 1000 := Int.ofNat_le.1 (admitted_bounds h (.chan .dmax k)).2
theorem scale_le (k : Chan) : (t.chan.get k).scale ≤ 255 := Int.ofNat_le.1 (admitted_bounds h (.chan .scale k)).2

end

/-! ### The ranges of a record, the timers apart -/

/-- A timer or count that runs stands at no more than `n`. -/
def AtMost (n : Nat) (timer : Option Nat) : Prop := ∀ v, timer = some v → v ≤ n

theorem atMost_none (n : Nat) : AtMost n none := nofun
theorem atMost_zero (n : Nat) : AtMost n (some 0) := fun v hv => by cases hv; exact Nat.zero_le n

theorem AtMost.mono {n m : Nat} {timer : Option Nat} (h : AtMost n timer) (hm : n ≤ m) : AtMost m timer :=
  fun v hv => (h v hv).trans hm

theorem AtMost.ite {n : Nat} {a b : Option Nat} {p : Prop} [Decidable p] (ha : AtMost n a) (hb : AtMost n b) :
    AtMost n (if p then a else b) := by split_ifs; exacts [ha, hb]

theorem AtMost.bump {n : Nat} {timer : Option Nat} (h : AtMost n timer) : AtMost (n + 1) (bump timer) := by
  intro v hv
  obtain ⟨w, hw, rfl⟩ := Option.map_eq_some_iff.1 hv
  exact Nat.succ_le_succ (h w hw)

/-- The four timers of a channel stand at no more than `n`. -/
structure Channel.TimersAtMost (n : Nat) (ch : Channel) : Prop where
  homing : AtMost n ch.homingT
  lock : AtMost n ch.lockT
  settle : AtMost n ch.settle
  centring : AtMost n ch.centringT

/-- A channel's record within the ranges of R90, its persistence count up to `n` and its timers apart; with `raw`, which says
that the codes have 12 bits, its measured angle too. -/
structure Channel.InRange (raw : Prop) (n : Nat) (ch : Channel) : Prop where
  sched : ch.sched.natAbs ≤ 800
  zero : ch.z ≤ 4095
  persist : ch.persist ≤ n
  drive : ch.drive.inRange
  theta : ch.theta.natAbs ≤ 800
  measured : raw → ch.m.natAbs ≤ 16320

theorem Channel.rangeInv_iff {ch : Channel} : ch.RangeInv ↔ ch.sched.natAbs ≤ 800 ∧ ch.z ≤ 4095 ∧ ch.persist ≤ 100 ∧
    ch.TimersAtMost 1000 ∧ ch.drive.inRange := by
  simp only [Channel.RangeInv, List.mem_cons, List.not_mem_nil, or_false, forall_eq_or_imp, forall_eq]
  exact ⟨fun ⟨h1, h2, h3, ⟨a, b, c, d⟩, h5⟩ => ⟨h1, h2, h3, ⟨a, b, c, d⟩, h5⟩,
    fun ⟨h1, h2, h3, ⟨a, b, c, d⟩, h5⟩ => ⟨h1, h2, h3, ⟨a, b, c, d⟩, h5⟩⟩

theorem Drive.load_inRange {d : Drive} (h : d.inRange) {duty : Int} (hd : duty.natAbs ≤ 1000) : (d.load duty).inRange := by
  cases d with
  | off => exact ⟨Nat.zero_le _, fun _ hw => by cases hw; exact hd⟩
  | energised a w => exact ⟨h.1, fun _ hw => by cases hw; exact hd⟩

theorem Drive.periodStart_inRange {d : Drive} (h : d.inRange) : d.periodStart.inRange := by
  rcases d with _ | ⟨a, _ | w⟩
  exacts [trivial, h, ⟨h.2 w rfl, nofun⟩]

theorem Channel.TimersAtMost.mono {n m : Nat} {ch : Channel} (h : ch.TimersAtMost n) (hm : n ≤ m) : ch.TimersAtMost m :=
  ⟨h.homing.mono hm, h.lock.mono hm, h.settle.mono hm, h.centring.mono hm⟩

theorem Channel.InRange.mono {raw : Prop} {n m : Nat} {ch : Channel} (h : ch.InRange raw n) (hm : n ≤ m) :
    ch.InRange raw m := { h with persist := h.persist.trans hm }

/-! ### The entries into states -/

namespace Channel

section

variable {raw : Prop} {n : Nat} {ch : Channel} (h : ch.InRange raw n)

include h

theorem InRange.toUnhomed : ch.toUnhomed.InRange raw n := { h with theta := Nat.zero_le _, drive := trivial }
theorem InRange.toHoming : ch.toHoming.InRange raw n := { h with theta := Nat.zero_le _, drive := trivial }
theorem InRange.toLocked : ch.toLocked.InRange raw n := { h with drive := trivial }
theorem InRange.toFaulted : ch.toFaulted.InRange raw n := { h with drive := trivial }
theorem InRange.toLockFailed : ch.toLockFailed.InRange raw n := { h with }
theorem InRange.toTracking (hold : HoldMode) (m : Nat) : (ch.toTracking hold).InRange raw m :=
  { h with theta := Nat.zero_le _, persist := Nat.zero_le _ }
theorem InRange.toCentring (mark : Bool) (m : Nat) : (ch.toCentring mark).InRange raw m :=
  { h with persist := Nat.zero_le _ }
theorem InRange.toAbsent : ch.toAbsent.InRange raw n := { h with theta := Nat.zero_le _, drive := trivial }
theorem InRange.toCapturing : ch.toCapturing.InRange raw n := { h with drive := trivial }
theorem InRange.rested (m : Nat) : ch.rested.InRange raw m :=
  { h with theta := Nat.zero_le _, drive := trivial, sched := Nat.zero_le _, persist := Nat.zero_le _ }

theorem InRange.takeReleased (t : ConfigTable) (hold : HoldMode) : (ch.takeReleased t hold).InRange raw n := by
  unfold Channel.takeReleased; split_ifs
  exacts [h.toTracking hold n, { h with }]

theorem InRange.toReleasing (t : ConfigTable) (hold : HoldMode) : (ch.toReleasing t hold).InRange raw n := by
  have awaiting : ({ ch.timersIdle with state := .releasing .awaiting, solenoid := true, lockT := some 0 } :
    Channel).InRange raw n := { h with }
  unfold Channel.toReleasing; dsimp only; split_ifs
  exacts [awaiting.takeReleased t hold, awaiting]

theorem InRange.takeEngaged : ch.takeEngaged.InRange raw n := by
  unfold Channel.takeEngaged; split_ifs
  exacts [{ h with drive := trivial }, h.toLocked]

theorem InRange.toEngaging : ch.toEngaging.InRange raw n := by
  have engaging : ({ ch.timersIdle with state := .centring .engaging, solenoid := false, lockT := some 0 } :
    Channel).InRange raw n := { h with }
  unfold Channel.toEngaging; dsimp only; split_ifs
  exacts [engaging.takeEngaged, engaging]

theorem InRange.seekAct {duty : Nat} (hd : duty ≤ 500) : (ch.seekAct duty).InRange raw n := by
  unfold Channel.seekAct; split
  exacts [{ h with drive := Drive.load_inRange h.drive (by omega) }, { h with drive := Drive.load_inRange h.drive (by omega) },
    { h with drive := trivial }]

theorem InRange.sensorRange : ch.sensorRange.InRange raw n := by
  unfold Channel.sensorRange; split
  exacts [{ h with drive := trivial }, { h with drive := trivial }]

theorem InRange.engageAtZero : ch.engageAtZero.InRange raw n := by
  unfold Channel.engageAtZero; split_ifs
  exacts [{ h with drive := trivial }, h]

theorem InRange.countDelivery : ch.countDelivery.InRange raw n := by
  unfold Channel.countDelivery; (repeat' split) <;> exact { h with }

theorem InRange.applyTarget (hold : HoldMode) {slew : Nat} {v : Int} (hv : v.natAbs ≤ 800) :
    (ch.applyTarget hold slew v).InRange raw n := by
  have zero (st : ChanState) : ({ ch with theta := 0, state := st } : Channel).InRange raw n :=
    { h with theta := Nat.zero_le _ }
  have stepped : (stepToZero slew ch.theta).natAbs ≤ 800 := by
    have := h.theta
    unfold stepToZero; split_ifs <;> omega
  unfold Channel.applyTarget
  split
  case h_1 | h_7 => exact h
  case h_2 | h_3 | h_4 | h_5 => exact { h with theta := Nat.zero_le _ }
  case h_8 | h_9 => exact { h with theta := stepped }
  case h_6 =>
    split
    case h_1 => exact { h with theta := hv }
    case h_2 => exact { h with }
    case h_3 =>
      split_ifs
      exacts [zero _, { h with theta := stepped }]

theorem InRange.takeDelivery (hold : HoldMode) {slew : Nat} {v : Int} (hv : v.natAbs ≤ 800) :
    (ch.takeDelivery hold slew v).InRange raw n := by
  have scheduled : ({ ch with sched := v } : Channel).InRange raw n := { h with sched := hv }
  exact { (scheduled.applyTarget hold hv).countDelivery.engageAtZero with }

end

/-! ### Timers -/

section

variable (ch : Channel) (n : Nat)

theorem timersIdle_atMost : ch.timersIdle.TimersAtMost n := ⟨nofun, nofun, nofun, nofun⟩
theorem toUnhomed_atMost : ch.toUnhomed.TimersAtMost n := ⟨nofun, nofun, nofun, nofun⟩
theorem toHoming_atMost : ch.toHoming.TimersAtMost n := ⟨atMost_zero n, nofun, nofun, nofun⟩
theorem toLocked_atMost : ch.toLocked.TimersAtMost n := ⟨nofun, .ite (atMost_none n) (atMost_zero n), nofun, nofun⟩
theorem toFaulted_atMost : ch.toFaulted.TimersAtMost n := ⟨nofun, .ite (atMost_none n) (atMost_zero n), nofun, nofun⟩
theorem toLockFailed_atMost : ch.toLockFailed.TimersAtMost n := ⟨nofun, nofun, nofun, nofun⟩
theorem toTracking_atMost (hold : HoldMode) : (ch.toTracking hold).TimersAtMost n := ⟨nofun, nofun, nofun, nofun⟩
theorem toCentring_atMost (mark : Bool) : (ch.toCentring mark).TimersAtMost n := ⟨nofun, nofun, nofun, atMost_zero n⟩
theorem toAbsent_atMost : ch.toAbsent.TimersAtMost n := ⟨nofun, nofun, nofun, nofun⟩

theorem takeEngaged_atMost : ch.takeEngaged.TimersAtMost n := by
  unfold Channel.takeEngaged; split_ifs
  exacts [⟨nofun, nofun, nofun, nofun⟩, ch.toLocked_atMost n]

theorem toEngaging_atMost : ch.toEngaging.TimersAtMost n := by
  unfold Channel.toEngaging; dsimp only; split_ifs
  exacts [takeEngaged_atMost _ n, ⟨nofun, atMost_zero n, nofun, nofun⟩]

end

variable {n : Nat} {ch : Channel} (h : ch.TimersAtMost n)

include h

theorem TimersAtMost.takeReleased (t : ConfigTable) (hold : HoldMode) : (ch.takeReleased t hold).TimersAtMost n := by
  unfold Channel.takeReleased; split_ifs
  exacts [ch.toTracking_atMost n hold, { h with settle := atMost_zero n }]

omit h in
theorem toReleasing_atMost (ch : Channel) (n : Nat) (t : ConfigTable) (hold : HoldMode) :
    (ch.toReleasing t hold).TimersAtMost n := by
  have awaiting : ({ ch.timersIdle with state := .releasing .awaiting, solenoid := true, lockT := some 0 } :
    Channel).TimersAtMost n := ⟨nofun, atMost_zero n, nofun, nofun⟩
  unfold Channel.toReleasing; dsimp only; split_ifs
  exacts [awaiting.takeReleased t hold, awaiting]

theorem TimersAtMost.toCapturing : ch.toCapturing.TimersAtMost n := { h with lock := nofun }

theorem TimersAtMost.seekAct (duty : Nat) : (ch.seekAct duty).TimersAtMost n := by
  unfold Channel.seekAct; split
  exacts [{ h with }, { h with }, { h with lock := atMost_zero n }]

theorem TimersAtMost.sensorRange : ch.sensorRange.TimersAtMost n := by
  unfold Channel.sensorRange; split
  exacts [{ h with }, toFaulted_atMost _ n]

theorem TimersAtMost.engageAtZero : ch.engageAtZero.TimersAtMost n := by
  unfold Channel.engageAtZero; split_ifs
  exacts [{ h with lock := nofun }, h]

theorem TimersAtMost.applyTarget (hold : HoldMode) (slew : Nat) (v : Int) :
    (ch.applyTarget hold slew v).TimersAtMost n := by
  unfold Channel.applyTarget; (repeat' split) <;> exact { h with }

theorem TimersAtMost.countDelivery : ch.countDelivery.TimersAtMost (n + 1) := by
  have h' := h.mono (Nat.le_succ n)
  unfold Channel.countDelivery
  (repeat' split) <;> first
    | exact h'
    | exact { h' with homing := h.homing.bump }
    | exact { h' with lock := h.lock.bump }
    | exact { h' with settle := h.settle.bump }
    | exact { h' with centring := h.centring.bump }

theorem TimersAtMost.takeDelivery (hold : HoldMode) (slew : Nat) (v : Int) :
    (ch.takeDelivery hold slew v).TimersAtMost (n + 1) := by
  have scheduled : ({ ch with sched := v } : Channel).TimersAtMost n := { h with }
  exact { (scheduled.applyTarget hold slew v).countDelivery.engageAtZero with }

end Channel

/-! ### Completions and sensor changes -/

namespace Channel

variable {raw : Prop} {ch : Channel}

theorem InRange.completionWork (h : ch.InRange raw 100) {code : Nat} (hc : code ≤ 4095) (t : ConfigTable)
    {cfg : ChanConfig} (hd : cfg.homingDuty ≤ 500) (fresh : Bool) :
    (ch.completionWork t cfg fresh code).ch.InRange raw 101 := by
  have h' := h.mono (Nat.le_succ 100)
  have captured : ({ ch with z := code } : Channel).InRange raw 101 := { h' with zero := hc }
  have counted : ({ ch with persist := ch.persist + 1 } : Channel).InRange raw 101 :=
    { h' with persist := Nat.succ_le_succ h.persist }
  have cleared : ({ ch with persist := 0 } : Channel).InRange raw 101 := { h' with persist := Nat.zero_le _ }
  have seeking : ({ ch with state := .homing .seeking, solenoid := true } : Channel).InRange raw 101 := { h' with }
  unfold Channel.completionWork
  (repeat' split)
  exacts [h', captured.toLocked, h'.toFaulted, seeking.seekAct hd, captured.toLocked, h', counted, cleared, counted, cleared,
    h'.toEngaging, h', h']

theorem TimersAtMost.completionWork {n : Nat} (h : ch.TimersAtMost n) (code : Nat) (t : ConfigTable) (cfg : ChanConfig)
    (fresh : Bool) : (ch.completionWork t cfg fresh code).ch.TimersAtMost n := by
  have seeking : ({ ch with state := .homing .seeking, solenoid := true } : Channel).TimersAtMost n := { h with }
  unfold Channel.completionWork
  (repeat' split)
  exacts [h, toLocked_atMost _ n, toFaulted_atMost _ n, seeking.seekAct _, toLocked_atMost _ n, h, { h with }, { h with },
    { h with }, { h with }, toEngaging_atMost _ n, h, h]

theorem InRange.contactChange {n : Nat} (h : ch.InRange raw n) (t : ConfigTable) (hold : HoldMode) (r : Contact) :
    (ch.contactChange t hold r).ch.InRange raw n := by
  have read : ({ ch with contact := r } : Channel).InRange raw n := { h with }
  have watched (timer : Option Nat) : ({ ch with contact := r, lockT := timer } : Channel).InRange raw n := { h with }
  unfold Channel.contactChange; dsimp only
  (repeat' split)
  exacts [read.toCapturing, read.toFaulted, read, read.toCapturing, read, watched _, read.takeReleased t hold, read,
    { h with }, watched _, watched _, read.takeEngaged, read, (watched _).engageAtZero, watched _, read.engageAtZero, read]

theorem TimersAtMost.contactChange {n : Nat} (h : ch.TimersAtMost n) (t : ConfigTable) (hold : HoldMode) (r : Contact) :
    (ch.contactChange t hold r).ch.TimersAtMost n := by
  have read : ({ ch with contact := r } : Channel).TimersAtMost n := { h with }
  have engaged : ({ ch with contact := r, lockT := watchEngaged ch.contact r ch.lockT } : Channel).TimersAtMost n :=
    { h with lock := .ite (atMost_none n) (.ite (atMost_zero n) h.lock) }
  have released : ({ ch with contact := r, lockT := watchReleased ch.contact r ch.lockT } : Channel).TimersAtMost n :=
    { h with lock := .ite (atMost_none n) (.ite (atMost_zero n) h.lock) }
  unfold Channel.contactChange; dsimp only
  (repeat' split)
  exacts [read.toCapturing, toFaulted_atMost _ n, read, read.toCapturing, read, engaged, read.takeReleased t hold, read,
    { h with settle := nofun }, released, released, takeEngaged_atMost _ n, read, engaged.engageAtZero, engaged,
    read.engageAtZero, read]

end Channel

end Sys2Proof.Machine

/-! # What every operation keeps: the blocks, the channels and the Supervisor's view -/

namespace Sys2Proof.Machine

/-! ### The ranges of the other blocks -/

/-- The Odometer within the bounds of R52, with a disagreement told exactly while it stands (R64). -/
structure Odo.InRange (o : Odo) : Prop where
  told : o.disagreeTold = true ↔ o.disagree = 50
  position : o.r ≤ 999999999999
  frame : o.frameNo < 65536
  disagree : o.disagree ≤ 50
  agree : o.agree ≤ 50
  failure1 : o.failure.t1 < 25
  failure2 : o.failure.t2 < 25
  quiet : o.quiet ≤ 2000

/-- The Position Fix Unit within the bounds of R71, with a miss count told exactly while it stands (R78). -/
structure Pfu.InRange (f : Pfu) : Prop where
  told : f.missTold = true ↔ 2 ≤ f.miss
  uncertainty : f.u ≤ 65535000
  miss : f.miss ≤ 255

/-- A schedule record within the bounds of R28 and R35. -/
structure SsRec.InRange (r : SsRec) : Prop where
  carried : r.carried.natAbs ≤ 125000
  carry : r.carry ≤ 65535

theorem RangeInv_iff {s : State} : RangeInv s ↔ s.odo.InRange ∧ s.pfu.InRange ∧ (∀ k, (s.ac.get k).RangeInv) ∧
    (∀ k, (s.ss.get k).InRange) ∧ (∀ h ∈ s.path.atSs, ∀ k, (h.entries.get k).Valid) ∧ s.li.ones ≤ 20 ∧
    s.li.queue.length ≤ 3 := by
  constructor
  · rintro ⟨h1, h2, h3, h4, h5, h6, h7, h8, h9, h10, h11, h12, h13, h14, h15, h16, h17⟩
    exact ⟨⟨h1, h7, h8, h9, h10, h11, h12, h13⟩, ⟨h2, h14, h15⟩, h3, fun k => ⟨h4 k, h16 k⟩, h5, h6, h17⟩
  · rintro ⟨⟨h1, h7, h8, h9, h10, h11, h12, h13⟩, ⟨h2, h14, h15⟩, h3, h4, h5, h6, h17⟩
    exact ⟨h1, h2, h3, fun k => (h4 k).carried, h5, h6, h7, h8, h9, h10, h11, h12, h13, h14, h15, fun k => (h4 k).carry, h17⟩

/-! ### The scope of a run of operations, and what it keeps -/

/-- What a run of operations since a state is held to, and how far it has got: whether the reports of HORIZON_SHORTFALL bear
the route distance that stands at its end, whether it is of requests alone, whether the raw codes have 12 bits, whether
steering mode, level and shortfall condition are derived from the view as it stands, whether the Odometer's items stand in
their ranges (within a frame's closing they may not), the configuration, the channels that are fitted and not ABSENT, and the
bounds that each channel's persistence count and timers stand within. -/
structure Scope where
  exact : Prop
  requests : Prop
  raw : Prop
  derived : Prop
  strict : Prop
  table : ConfigTable
  fit : Chan → Bool
  persist : Chan → Nat
  timer : Chan → Nat

/-- What a run of operations since `s₀` keeps of every block but the channels. -/
structure Base (p : Scope) (s₀ s : State) : Prop where
  window : WindowInv s
  faults : FaultInv s
  authority : AuthorityInv s
  config : ConfigInv s
  odo : p.strict → s.odo.InRange
  pfu : s.pfu.InRange
  records : ∀ k, (s.ss.get k).InRange
  hands : ∀ h ∈ s.path.atSs, ∀ k, (h.entries.get k).Valid
  ones : s.li.ones ≤ 20
  queue : s.li.queue.length ≤ 3
  latch : s₀.sv.latch = true → s.sv.latch = true
  tracks : TracksShortfall p.exact s₀ s
  shrinks : p.requests → (others s.sv.faults).length ≤ (others s₀.sv.faults).length
  table : s.ct.table = p.table
  sources : SourcesSeen p.fit s
  derived : p.derived → Derived s

/-- The same, with the route-open flag and the confidence reported as they stand. -/
structure Core (p : Scope) (s₀ s : State) : Prop extends Base p s₀ s where
  route : RouteSeen s

/-- What a run of operations since `s₀` keeps. -/
structure Told (p : Scope) (s₀ s : State) : Prop extends Core p s₀ s where
  channels : ∀ k, (s.ac.get k).InRange p.raw (p.persist k) ∧ (s.ac.get k).TimersAtMost (p.timer k)
  absent : p.requests → ∀ k, (s.ac.get k).state = .absent ↔ p.fit k = false
  bogie : BogieInv s
  seen : Seen s

/-- The scope before a derivation. -/
def Scope.underived (p : Scope) : Scope := { p with derived := False }

section

variable {p : Scope} {s₀ s t : State}

theorem Base.underived (h : Base p s₀ s) : Base p.underived s₀ s := { h with derived := nofun }

theorem Core.ite {q : Prop} [Decidable q] (hs : Core p s₀ s) (ht : Core p s₀ t) : Core p s₀ (if q then s else t) := by
  split_ifs
  exacts [hs, ht]

theorem Told.ite {q : Prop} [Decidable q] (hs : Told p s₀ s) (ht : Told p s₀ t) : Told p s₀ (if q then s else t) := by
  split_ifs
  exacts [hs, ht]

/-! ### Reports to the fault list -/

/-- A change of the fault list alone. -/
theorem Base.setSv (h : Base p s₀ s) {v : Sv} (hview : v.view = s.sv.view) (hl : v.latch = s.sv.latch)
    (hd : v.routeOpen = s.sv.routeOpen ∧ v.conf = s.sv.conf ∧ v.steering = s.sv.steering ∧ v.level = s.sv.level ∧
      v.shortfall = s.sv.shortfall) (hf : FaultInv (s.setSv v)) (ht : TracksShortfall p.exact s₀ (s.setSv v))
    (hs : p.requests → (others v.faults).length ≤ (others s.sv.faults).length) : Base p s₀ (s.setSv v) := by
  obtain ⟨hro, hc, hst, hlv, hsh⟩ := hd
  refine { h with
    faults := hf, tracks := ht, shrinks := fun hp => (hs hp).trans (h.shrinks hp)
    latch := fun hl0 => hl.trans (h.latch hl0)
    sources := fun k hk => by rw [State.setSv_sv, hview]; exact h.sources k hk
    derived := fun hp => ?_ }
  unfold Derived
  rw [State.setSv_sv, hview, hl, hro, hc, hst, hlv, hsh]
  exact h.derived hp

theorem Base.raise (h : Base p s₀ s) {c : FaultCode} {sub : Subject} (hc : c ≠ .horizonShortfall)
    (ht : c.takes sub = true) (hp : ¬p.requests) : Base p s₀ (raiseFault c sub s) := by
  obtain ⟨-, hl, hv, hd⟩ := takeFault_keeps s.sv c sub (stampDistance s) s.odo.frameNo
  exact h.setSv hv hl hd (raiseFault_faultInv h.faults ht) (h.tracks.raise hc sub) fun hr => absurd hr hp

theorem Base.inactive (h : Base p s₀ s) {c : FaultCode} (sub : Subject) (hc : c ≠ .horizonShortfall) :
    Base p s₀ (reportInactive c sub s) :=
  h.setSv rfl rfl ⟨rfl, rfl, rfl, rfl, rfl⟩ (reportInactive_faultInv h.faults c sub) (h.tracks.inactive hc sub) fun _ =>
    le_of_eq (others_map_length fun f => by split_ifs <;> rfl)

theorem routeSeen_setSv (h : RouteSeen s) {v : Sv} (hr : v.routeOpen = s.sv.routeOpen) (hc : v.conf = s.sv.conf) :
    RouteSeen (s.setSv v) := ⟨hr.trans h.1, hc.trans h.2⟩

theorem Core.raise (h : Core p s₀ s) {c : FaultCode} {sub : Subject} (hc : c ≠ .horizonShortfall)
    (ht : c.takes sub = true) (hp : ¬p.requests) : Core p s₀ (raiseFault c sub s) := by
  obtain ⟨-, -, -, hr, hcf, -⟩ := takeFault_keeps s.sv c sub (stampDistance s) s.odo.frameNo
  exact { h.toBase.raise hc ht hp with route := routeSeen_setSv h.route hr hcf }

theorem Core.inactive (h : Core p s₀ s) {c : FaultCode} (sub : Subject) (hc : c ≠ .horizonShortfall) :
    Core p s₀ (reportInactive c sub s) := { h.toBase.inactive sub hc with route := h.route }

/-- A change of the Supervisor's that leaves its view and its latch. -/
theorem Told.ofSv (h : Told p s₀ s) {v : Sv} (hc : Core p s₀ (s.setSv v)) (hview : v.view = s.sv.view)
    (hl : v.latch = s.sv.latch) : Told p s₀ (s.setSv v) :=
  { hc with
    channels := h.channels, absent := h.absent
    bogie := ⟨h.bogie.1, fun hl' => h.bogie.2 (hl ▸ hl')⟩
    seen := fun k => by rw [State.setSv_sv, hview]; exact h.seen k }

theorem Told.raise (h : Told p s₀ s) {c : FaultCode} {sub : Subject} (hc : c ≠ .horizonShortfall)
    (ht : c.takes sub = true) (hp : ¬p.requests) : Told p s₀ (raiseFault c sub s) := by
  obtain ⟨-, hl, hv, -⟩ := takeFault_keeps s.sv c sub (stampDistance s) s.odo.frameNo
  exact h.ofSv (h.toCore.raise hc ht hp) hv hl

theorem Told.inactive (h : Told p s₀ s) {c : FaultCode} (sub : Subject) (hc : c ≠ .horizonShortfall) :
    Told p s₀ (reportInactive c sub s) := h.ofSv (h.toCore.inactive sub hc) rfl rfl

theorem Told.channelInactive (h : Told p s₀ s) (k : Chan) : Told p s₀ (reportChannelInactive k s) := by
  have other : ∀ c ∈ channelCodes, c ≠ .horizonShortfall := by decide
  unfold reportChannelInactive
  generalize channelCodes = codes at other ⊢
  induction codes generalizing s with
  | nil => exact h
  | cons c codes ih =>
    exact ih (h.inactive (.chan k) (other c List.mem_cons_self)) fun c' hc' => other c' (List.mem_cons_of_mem c hc')

/-! ### Derivations -/

/-- A report of HORIZON_SHORTFALL adds no record of another fault. -/
theorem others_takeShortfall (sv : Sv) (d : Option Nat) (n : Nat) :
    (others (sv.takeFault .horizonShortfall .none d n).faults).length ≤ (others sv.faults).length := by
  have restamped (l : List FaultRecord) :
      (others (l.map fun f => if f.concerns .horizonShortfall .none then f.stamp d n else f)).length ≤
        (others l).length := le_of_eq (others_map_length fun f => (restamp_keys .horizonShortfall .none d n f).1)
  have joined (l : List FaultRecord) : others (l ++ [⟨.horizonShortfall, .none, d, n, true⟩]) = others l := by
    simp [others]
  unfold Sv.takeFault; dsimp only; split_ifs
  · exact restamped _
  · exact restamped _
  · rw [joined]
  · rw [joined]; exact ((List.eraseP_sublist).filter _).length_le
  · exact le_refl _

theorem others_derive (s : State) : (others (derive s).sv.faults).length ≤ (others s.sv.faults).length := by
  rw [derive_eq]; split_ifs
  · exact others_takeShortfall _ _ _
  · exact le_of_eq (others_map_length fun f => by split_ifs <;> rfl)
  · exact le_refl _

theorem OnlySv.base (h : OnlySv s t) (hb : Base p s₀ s) (hf : FaultInv t) (hl : s.sv.latch = true → t.sv.latch = true)
    (ht : TracksShortfall p.exact s₀ t) (hs : p.requests → (others t.sv.faults).length ≤ (others s.sv.faults).length)
    (hsrc : SourcesSeen p.fit t) (hd : p.derived → Derived t) : Base p s₀ t := by
  obtain ⟨hpow, hli, haa, hrw, hodo, hpfu, hss, -, hct, hpath, -⟩ := h
  refine ⟨?_, hf, ?_, ?_, ?_, ?_, ?_, ?_, ?_, ?_, fun h => hl (hb.latch h), ht, fun h => (hs h).trans (hb.shrinks h), ?_,
    hsrc, hd⟩
  · have := hb.window; unfold WindowInv at this ⊢; rw [hrw, hpfu]; exact this
  · have := hb.authority; unfold AuthorityInv at this ⊢; rw [haa, hct, hpow]; exact this
  · have := hb.config; unfold ConfigInv at this ⊢; rw [hct]; exact this
  · rw [hodo]; exact hb.odo
  · rw [hpfu]; exact hb.pfu
  · rw [hss]; exact hb.records
  · rw [hpath]; exact hb.hands
  · rw [hli]; exact hb.ones
  · rw [hli]; exact hb.queue
  · rw [hct]; exact hb.table

theorem Base.derives (h : Base p.underived s₀ s) (hr : RouteSeen s) : Core p s₀ (derive s) := by
  have only := derive_onlySv s
  obtain ⟨hv, hro, hc, hl, -⟩ := derive_sv s
  refine { only.base h (derive_faultInv h.faults) (fun h => hl.trans h) (h.tracks.derive h.faults hr.2)
    (fun _ => others_derive s) (fun k hk => ?_) nofun with derived := fun _ => derive_derives s, route := ?_ }
  · obtain ⟨-, -, -, -, -, -, hss, -⟩ := only
    rw [hv, hss]; exact h.sources k hk
  · obtain ⟨-, -, -, hrw, -, hpfu, -⟩ := only
    exact ⟨by rw [hro, hrw]; exact hr.1, by rw [hc, hpfu]; exact hr.2⟩

/-! ### Reports that change the view -/

/-- A change of the view at one channel that leaves the sources of the others, and gives this one's if it is fitted. -/
theorem Core.viewed (h : Core p s₀ s) (k : Chan) {v : ChanView}
    (hv : p.fit k = true → v.source = (s.ss.get k).source) :
    Core p s₀ (derive (s.setSv { s.sv with view := s.sv.view.set k v })) := by
  refine Base.derives ({ h.toBase.underived with sources := fun j hj => ?_, derived := nofun }) h.route
  by_cases hjk : j = k
  · subst hjk; rw [State.setSv_sv, Quad.get_set_self]; exact hv hj
  · rw [State.setSv_sv, Quad.get_set_ne _ _ hjk]; exact h.sources j hj

theorem Core.reportState (h : Core p s₀ s) (k : Chan) : Core p s₀ (reportState k s) :=
  .ite h (h.viewed k fun hk => h.sources k hk)

/-- The states and marks of the view are the channels', but for this channel's. -/
def SeenBut (k : Chan) (s : State) : Prop :=
  ∀ j, j ≠ k → (s.sv.view.get j).state = (s.ac.get j).state ∧ (s.sv.view.get j).mark = (s.ac.get j).mark

theorem reportState_seen {k : Chan} (h : SeenBut k s) : Seen (reportState k s) := by
  unfold Machine.reportState; dsimp only
  split_ifs with hv
  · intro j
    by_cases hj : j = k
    · subst hj; rw [hv]; exact ⟨rfl, rfl⟩
    · exact h j hj
  · have only := derive_onlySv (s.setSv { s.sv with
      view := s.sv.view.set k { s.sv.view.get k with state := (s.ac.get k).state, mark := (s.ac.get k).mark } })
    obtain ⟨-, -, -, -, -, -, -, hac, -⟩ := only
    intro j
    rw [derive_view, hac]
    by_cases hj : j = k
    · subst hj; rw [State.setSv_sv, Quad.get_set_self]; exact ⟨rfl, rfl⟩
    · rw [State.setSv_sv, Quad.get_set_ne _ _ hj]; exact h j hj

theorem seenBut_putChannel (h : Seen s) (k : Chan) (ch : Channel) : SeenBut k (putChannel k ch s) := fun j hj => by
  rw [putChannel_ac, Quad.get_set_ne _ _ hj]; exact h j

theorem Core.putChannel (h : Core p s₀ s) (k : Chan) (ch : Channel) : Core p s₀ (putChannel k ch s) := { h with }

theorem Core.centringOrder (h : Core p s₀ s) (k : Chan) : Core p s₀ (centringOrder k s) :=
  .ite ((h.putChannel k _).reportState k) h

theorem centringOrder_seen (h : Seen s) (k : Chan) : Seen (centringOrder k s) := by
  unfold Machine.centringOrder; dsimp only; split_ifs
  exacts [reportState_seen (seenBut_putChannel h k _), h]

theorem Core.eachChannel {f : Chan → State → State} (hf : ∀ k {s}, Core p s₀ s → Core p s₀ (f k s)) (h : Core p s₀ s) :
    Core p s₀ (eachChannel f s) := hf _ (hf _ (hf _ (hf _ h)))

theorem Core.centringOrders (h : Core p s₀ s) : Core p s₀ (centringOrders s) :=
  Core.eachChannel (fun k _ h => h.centringOrder k) h

theorem centringOrders_seen (h : Seen s) : Seen (centringOrders s) :=
  centringOrder_seen (centringOrder_seen (centringOrder_seen (centringOrder_seen h _) _) _) _

theorem derive_seen (h : Seen s) : Seen (derive s) := fun k => by
  obtain ⟨-, -, -, -, -, -, -, hac, -⟩ := derive_onlySv s
  rw [derive_view, hac]; exact h k

theorem Core.setLatch (h : Core p s₀ s) : Core p s₀ (setLatch s) := by
  have latched : Core p.underived s₀ (s.setSv { s.sv with latch := true }) :=
    { h with latch := fun _ => rfl, derived := nofun }
  exact Base.derives latched.centringOrders.toBase latched.centringOrders.route

theorem setLatch_seen (h : Seen s) : Seen (setLatch s) :=
  derive_seen (centringOrders_seen (s := s.setSv { s.sv with latch := true }) h)

theorem Core.reportChange (h : Core p s₀ s) (k : Chan) (before : Channel) : Core p s₀ (reportChange k before s) := by
  unfold Machine.reportChange; dsimp only; split_ifs
  exacts [h, (h.reportState k).centringOrder _, h.reportState k]

theorem reportChange_seen {k : Chan} {before ch : Channel} (h : Seen s) (hb : s.ac.get k = before) :
    Seen (reportChange k before (putChannel k ch s)) := by
  have told := reportState_seen (seenBut_putChannel h k ch)
  unfold Machine.reportChange; dsimp only; split_ifs with hsame
  · rw [putChannel_ac, Quad.get_set_self] at hsame
    intro j
    by_cases hj : j = k
    · subst hj
      rw [putChannel_ac, Quad.get_set_self, ← hsame.1, ← hsame.2, ← hb]; exact h j
    · exact seenBut_putChannel h k ch j hj
  · exact centringOrder_seen told _
  · exact told

/-! ### A channel's change -/

theorem takes_chan {c : FaultCode} (h : c ∈ channelCodes) (k : Chan) : c.takes (.chan k) = true := by
  simpa [FaultCode.takes] using h

theorem ne_shortfall_of_mem {c : FaultCode} (h : c ∈ channelCodes) : c ≠ .horizonShortfall := by
  rintro rfl; exact absurd h (by decide)

theorem Core.raiseAll (h : Core p s₀ s) (k : Chan) {l : List FaultCode} (hl : ∀ c ∈ l, c ∈ channelCodes)
    (hp : p.requests → l = []) : Core p s₀ (l.foldl (fun s c => raiseFault c (.chan k) s) s) := by
  induction l generalizing s with
  | nil => exact h
  | cons c l ih =>
    have hc := hl c List.mem_cons_self
    have hno : ¬p.requests := fun hr => absurd (hp hr) (List.cons_ne_nil c l)
    exact ih (h.raise (ne_shortfall_of_mem hc) (takes_chan hc k) hno) (fun c' hc' => hl c' (List.mem_cons_of_mem c hc'))
      fun hr => absurd hr hno

theorem foldl_raise_seen (h : Seen s) (k : Chan) (l : List FaultCode) :
    Seen (l.foldl (fun s c => raiseFault c (.chan k) s) s) := by
  induction l generalizing s with
  | nil => exact h
  | cons c l ih => exact ih fun j => by rw [raiseFault_view]; exact h j

theorem Core.commit (h : Core p s₀ s) (k : Chan) {st : ChanStep} (hl : ∀ c ∈ st.faults, c ∈ channelCodes)
    (hp : p.requests → st.faults = []) : Core p s₀ (commit k st s) := by
  have changed := (((h.raiseAll k hl hp).putChannel k st.ch).reportChange k (s.ac.get k))
  unfold Machine.commit; dsimp only; split_ifs
  exacts [changed.setLatch, changed]

theorem commit_seen (h : Seen s) (k : Chan) (st : ChanStep) : Seen (commit k st s) := by
  have hac := (foldl_raise_onlySv k st.faults s).2.2.2.2.2.2.2.1
  have changed := reportChange_seen (ch := st.ch) (foldl_raise_seen h k st.faults) (congrArg (·.get k) hac)
  unfold Machine.commit; dsimp only; split_ifs
  exacts [setLatch_seen changed, changed]

@[simp] theorem toCentring_released (ch : Channel) (mark : Bool) : (ch.toCentring mark).state.released = false := rfl

@[simp] theorem toCentring_callsPartnerRule (ch : Channel) : callsPartnerRule (ch.toCentring false) = false := rfl

/-- What a record has become by orders to centre: it is as it was, or it was released and is centring. -/
def Ordered (must : Prop) (c d : Channel) : Prop :=
  d = c ∧ (must → c.state.released = false) ∨ d = c.toCentring false ∧ c.state.released = true

theorem Ordered.of_order {c d : Channel} {must must' : Prop} (h : Ordered must c d) :
    Ordered must' c (if d.state.released then d.toCentring false else d) := by
  obtain ⟨rfl, -⟩ | ⟨rfl, hc⟩ := h
  · by_cases hr : d.state.released = true
    · rw [if_pos hr]; exact .inr ⟨rfl, hr⟩
    · rw [if_neg hr]; exact .inl ⟨rfl, fun _ => Bool.eq_false_iff.2 hr⟩
  · rw [if_neg (by simp)]; exact .inr ⟨rfl, hc⟩

/-- The partner of channel k is ordered to centre by a change of k's record to `ch`: that calls for the partner rule, and
its state or mark is another (R129). -/
def OrdersPartner (before ch : Channel) : Prop :=
  ¬(before.state = ch.state ∧ before.mark = ch.mark) ∧ callsPartnerRule ch = true

theorem reportChange_get (k : Chan) (before ch : Channel) (s : State) (j : Chan) :
    Ordered (j = k.partner ∧ OrdersPartner before ch) ((s.ac.set k ch).get j)
      ((reportChange k before (putChannel k ch s)).ac.get j) := by
  rw [reportChange_ac, putChannel_ac, Quad.get_set_self, Quad.get_set_ne _ _ (Chan.partner_ne k)]
  by_cases hp : j = k.partner
  · rw [hp, Quad.get_set_ne _ _ (Chan.partner_ne k)]
    split_ifs with horder
    · rw [Quad.get_set_self]; exact .inr ⟨rfl, horder.2.2⟩
    · rw [Quad.get_set_ne _ _ (Chan.partner_ne k)]
      exact .inl ⟨rfl, fun ⟨_, hsame, hcalls⟩ => Bool.eq_false_iff.2 fun hr => horder ⟨hsame, hcalls, hr⟩⟩
  · refine .inl ⟨?_, fun h => absurd h.1 hp⟩
    split_ifs
    exacts [Quad.get_set_ne _ _ hp, rfl]

/-- The records after a committed change: each is what it was, or the new one, and then perhaps ordered to centre (R128,
R129, R138). -/
theorem commit_get (k : Chan) (st : ChanStep) (s : State) (j : Chan) :
    Ordered (st.faults.contains .lockFail = true ∨ j = k.partner ∧ OrdersPartner (s.ac.get k) st.ch)
      ((s.ac.set k st.ch).get j) ((commit k st s).ac.get j) := by
  have hac := (foldl_raise_onlySv k st.faults s).2.2.2.2.2.2.2.1
  have changed := reportChange_get k (s.ac.get k) st.ch (st.faults.foldl (fun s c => raiseFault c (.chan k) s) s) j
  rw [hac] at changed
  unfold Machine.commit; dsimp only
  generalize reportChange k (s.ac.get k) (putChannel k st.ch
    (st.faults.foldl (fun s c => raiseFault c (.chan k) s) s)) = s₂ at changed
  split_ifs with hl
  · rw [Machine.setLatch, (derive_onlySv _).2.2.2.2.2.2.2.1, centringOrders_get]
    exact changed.of_order
  · obtain ⟨hd, hm⟩ | hd := changed
    · exact .inl ⟨hd, fun h => hm (h.resolve_left hl)⟩
    · exact .inr hd

/-! ### The orders, through a channel's change -/

theorem centringOrder_keeps (k : Chan) (s : State) : KeepsOrders s (centringOrder k s) := by
  unfold centringOrder; dsimp only; split_ifs
  · exact reportState_keeps k (putChannel k _ s)
  · exact .refl s

theorem centringOrders_keeps (s : State) : KeepsOrders s (centringOrders s) :=
  (((centringOrder_keeps _ _).trans (centringOrder_keeps _ _)).trans (centringOrder_keeps _ _)).trans
    (centringOrder_keeps _ _)

theorem reportChange_keeps (k : Chan) (before : Channel) (s : State) : KeepsOrders s (reportChange k before s) := by
  unfold reportChange; dsimp only; split_ifs
  · exact .refl s
  · exact (reportState_keeps k s).trans (centringOrder_keeps _ _)
  · exact reportState_keeps k s

theorem foldl_raise_keeps (k : Chan) (l : List FaultCode) (s : State) :
    KeepsOrders s (l.foldl (fun s c => raiseFault c (.chan k) s) s) := by
  induction l generalizing s with
  | nil => exact .refl s
  | cons c l ih => exact (raiseFault_keeps c (.chan k) s).trans (ih _)

theorem setLatch_hold (s : State) : (setLatch s).sv.hold = s.sv.hold :=
  ((derive_keeps _).1.trans (centringOrders_keeps _).1 : _)

theorem setLatch_latch (s : State) : (setLatch s).sv.latch = true :=
  ((derive_keeps _).2.trans (centringOrders_keeps _).2 : _)

/-- A committed change leaves the hold mode; it sets the latch on LOCK_FAIL and else leaves it (R138). -/
theorem commit_orders (k : Chan) (st : ChanStep) (s : State) : (commit k st s).sv.hold = s.sv.hold ∧
    (commit k st s).sv.latch = (s.sv.latch || st.faults.contains .lockFail) := by
  have raised := foldl_raise_keeps k st.faults s
  have changed := reportChange_keeps k (s.ac.get k)
    (putChannel k st.ch (st.faults.foldl (fun s c => raiseFault c (.chan k) s) s))
  unfold commit; dsimp only; split_ifs with hl
  · rw [setLatch_hold, setLatch_latch, hl, Bool.or_true]; exact ⟨changed.1.trans raised.1, rfl⟩
  · rw [Bool.eq_false_iff.2 hl, Bool.or_false]; exact ⟨changed.1.trans raised.1, changed.2.trans raised.2⟩

/-! ### What a committed change keeps -/

/-- A change of channel k's record that may be committed to a state: the record is in range, ABSENT exactly if the channel is
to be so, released only where its partner and the latch allow it, and the faults are channel faults. -/
structure ChanStep.Fits (p : Scope) (k : Chan) (s : State) (st : ChanStep) : Prop where
  record : st.ch.InRange p.raw (p.persist k)
  timers : st.ch.TimersAtMost (p.timer k)
  absent : p.requests → (st.ch.state = .absent ↔ p.fit k = false)
  released : st.ch.state.released = true → (s.ac.get k).state.released = true ∨
    callsPartnerRule (s.ac.get k.partner) = false ∧ s.sv.latch = false
  codes : ∀ c ∈ st.faults, c ∈ channelCodes
  quiet : p.requests → st.faults = []

theorem callsPartnerRule_congr {c d : Channel} (h : c.state = d.state ∧ c.mark = d.mark) :
    callsPartnerRule c = callsPartnerRule d := by
  unfold callsPartnerRule; rw [h.1, h.2]

theorem Ordered.not_released {must : Prop} {c d : Channel} (h : Ordered must c d) (hc : c.state.released = false) :
    d.state.released = false := by
  obtain ⟨rfl, -⟩ | ⟨rfl, -⟩ := h
  exacts [hc, rfl]

theorem Ordered.not_released_of_must {must : Prop} {c d : Channel} (h : Ordered must c d) (hm : must) :
    d.state.released = false := by
  obtain ⟨rfl, hc⟩ | ⟨rfl, -⟩ := h
  exacts [hc hm, rfl]

theorem Ordered.calls {must : Prop} {c d : Channel} (h : Ordered must c d) (hd : callsPartnerRule d = true) :
    callsPartnerRule c = true := by
  obtain ⟨rfl, -⟩ | ⟨rfl, -⟩ := h
  exacts [hd, absurd hd nofun]

theorem commit_bogie (h : BogieInv s) {k : Chan} {st : ChanStep}
    (hr : st.ch.state.released = true → (s.ac.get k).state.released = true ∨
      callsPartnerRule (s.ac.get k.partner) = false ∧ s.sv.latch = false) : BogieInv (commit k st s) := by
  have hget := commit_get k st s
  have not_released (hp : callsPartnerRule (s.ac.get k.partner) = true ∨ s.sv.latch = true)
      (hk : (s.ac.get k).state.released = false) : st.ch.state.released = false :=
    Bool.eq_false_iff.2 fun hrel => (hr hrel).elim (fun ho => absurd (ho.symm.trans hk) nofun) fun ⟨h1, h2⟩ =>
      hp.elim (fun hp => absurd (hp.symm.trans h1) nofun) fun hp => absurd (hp.symm.trans h2) nofun
  refine ⟨fun j hj => ?_, fun hl j => ?_⟩
  · have hc := (hget j).calls hj
    by_cases hjk : j = k
    · subst hjk
      rw [Quad.get_set_self] at hc
      by_cases hsame : (s.ac.get j).state = st.ch.state ∧ (s.ac.get j).mark = st.ch.mark
      · refine (hget j.partner).not_released ?_
        rw [Quad.get_set_ne _ _ (Chan.partner_ne j)]
        exact h.1 j ((callsPartnerRule_congr hsame).trans hc)
      · exact (hget j.partner).not_released_of_must (.inr ⟨rfl, hsame, hc⟩)
    · rw [Quad.get_set_ne _ _ hjk] at hc
      refine (hget j.partner).not_released ?_
      by_cases hp : j.partner = k
      · subst hp
        rw [Quad.get_set_self]
        exact not_released (.inl (by rwa [Chan.partner_partner])) (h.1 j hc)
      · rw [Quad.get_set_ne _ _ hp]; exact h.1 j hc
  · rw [(commit_orders k st s).2, Bool.or_eq_true] at hl
    rcases hl with hl | hl
    · refine (hget j).not_released ?_
      by_cases hjk : j = k
      · subst hjk; rw [Quad.get_set_self]; exact not_released (.inr hl) (h.2 hl j)
      · rw [Quad.get_set_ne _ _ hjk]; exact h.2 hl j
    · exact (hget j).not_released_of_must (.inl hl)

/-- A committed change of channel k's record, which may change the channel's fittedness and its bounds. -/
theorem Told.changeTo {q : Scope} (h : Told p s₀ s) (hc : Core q s₀ s) {k : Chan} {st : ChanStep}
    (hraw : q.raw = p.raw) (hreq : q.requests → p.requests)
    (hoff : ∀ j, j ≠ k → q.fit j = p.fit j ∧ q.persist j = p.persist j ∧ q.timer j = p.timer j)
    (g : st.Fits q k s) : Told q s₀ (commit k st s) := by
  have put (j : Chan) : (((s.ac.set k st.ch).get j).InRange q.raw (q.persist j) ∧
      ((s.ac.set k st.ch).get j).TimersAtMost (q.timer j)) ∧
      (q.requests → (((s.ac.set k st.ch).get j).state = .absent ↔ q.fit j = false)) := by
    by_cases hj : j = k
    · subst hj; rw [Quad.get_set_self]; exact ⟨⟨g.record, g.timers⟩, g.absent⟩
    · obtain ⟨hf, hp, ht⟩ := hoff j hj
      rw [Quad.get_set_ne _ _ hj, hraw, hf, hp, ht]; exact ⟨h.channels j, fun hr => h.absent (hreq hr) j⟩
  refine { hc.commit k g.codes g.quiet with
    channels := fun j => ?_, absent := fun hr j => ?_, bogie := commit_bogie h.bogie g.released
    seen := commit_seen h.seen k st }
  all_goals obtain ⟨hd, -⟩ | ⟨hd, hrel⟩ := commit_get k st s j <;> rw [hd]
  · exact (put j).1
  · exact ⟨(put j).1.1.toCentring false _, Channel.toCentring_atMost _ _ _⟩
  · exact (put j).2 hr
  · rw [← (put j).2 hr]
    exact ⟨nofun, fun ha => absurd (ha ▸ hrel) nofun⟩

theorem Told.change (h : Told p s₀ s) {k : Chan} {st : ChanStep} (g : st.Fits p k s) : Told p s₀ (commit k st s) :=
  h.changeTo h.toCore rfl id (fun _ _ => ⟨rfl, rfl, rfl⟩) g

end

end Sys2Proof.Machine

/-! # What the channels' events and the Supervisor's orders keep -/

namespace Sys2Proof.Machine

/-! ### Timers past their limit -/

/-- A timer that runs past 1000, the longest limit that R182 gives. -/
def Over (timer : Option Nat) : Prop := ∃ v, timer = some v ∧ 1000 < v

theorem atMost_or_over (timer : Option Nat) : AtMost 1000 timer ∨ Over timer := by
  cases timer with
  | none => exact .inl nofun
  | some n =>
    rcases Nat.lt_or_ge 1000 n with h | h
    exacts [.inr ⟨n, rfl, h⟩, .inl fun v hv => by cases hv; exact h]

theorem Over.reached {timer : Option Nat} (h : Over timer) {limit : Nat} (hl : limit ≤ 1000) :
    reached timer limit = true := by
  obtain ⟨v, rfl, hv⟩ := h
  simp [Machine.reached]; omega

/-- HOMING_TIMEOUT watches the homing timer in this state (R102). -/
def ChanState.homes (st : ChanState) : Prop := st = .homing .assessing ∨ st = .homing .seeking

/-- LOCK_STUCK watches the lock timer in this state (R106, R109). -/
def ChanState.awaitsRelease (st : ChanState) : Prop := st = .releasing .awaiting ∨ st = .tracking ∨ st = .holding

/-- LOCK_FAIL watches the lock timer in this state (R101, R113, R115, R116). -/
def ChanState.watchesLock (st : ChanState) : Prop :=
  st = .homing .engaging ∨ st = .centring .engaging ∨ st = .locked ∨ st = .faulted .lockAwaited ∨
    st = .faulted .lockEngaged

/-- A timer past the longest limit, in the state that watches it. -/
def Channel.Overdue (ch : Channel) : Prop :=
  (ch.state.homes ∧ Over ch.homingT) ∨ (ch.state.awaitsRelease ∧ Over ch.lockT) ∨
    (ch.state = .releasing .settling ∧ Over ch.settle) ∨ (ch.state = .centring .stepping ∧ Over ch.centringT) ∨
    (ch.state.watchesLock ∧ Over ch.lockT)

/-- A delivery counts one timer, in the state that watches it. -/
theorem Channel.countDelivery_overdue {ch : Channel} (h : ch.TimersAtMost 1000) :
    ch.countDelivery.TimersAtMost 1000 ∨ ch.countDelivery.Overdue := by
  have homing := atMost_or_over (bump ch.homingT)
  have lock := atMost_or_over (bump ch.lockT)
  have settle := atMost_or_over (bump ch.settle)
  have centring := atMost_or_over (bump ch.centringT)
  unfold Channel.countDelivery
  split
  case h_1 | h_2 | h_6 | h_16 => exact .inl h
  case h_3 | h_4 =>
    exact homing.imp (fun hb => { h with homing := hb }) fun hb => .inl ⟨by simp [ChanState.homes, *], hb⟩
  case h_8 | h_10 | h_11 =>
    exact lock.imp (fun hb => { h with lock := hb }) fun hb => .inr (.inl ⟨by simp [ChanState.awaitsRelease, *], hb⟩)
  case h_9 =>
    exact settle.imp (fun hb => { h with settle := hb }) fun hb => .inr (.inr (.inl ⟨‹_›, hb⟩))
  case h_12 =>
    split_ifs
    · exact centring.imp (fun hb => { h with centring := hb }) fun hb => .inr (.inr (.inr (.inl ⟨‹_›, hb⟩)))
    · exact .inl h
  all_goals
    exact lock.imp (fun hb => { h with lock := hb }) fun hb =>
      .inr (.inr (.inr (.inr ⟨by simp [ChanState.watchesLock, *], hb⟩)))

theorem Channel.countDelivery_state (ch : Channel) : ch.countDelivery.state = ch.state := by
  unfold Channel.countDelivery; (repeat' split) <;> rfl

theorem Channel.engageAtZero_overdue {ch : Channel} (h : ch.TimersAtMost 1000) :
    ch.countDelivery.engageAtZero.TimersAtMost 1000 ∨ ch.countDelivery.engageAtZero.Overdue := by
  by_cases hs : (ch.countDelivery.state = .faulted .lockAwaited ∨ ch.countDelivery.state = .faulted .lockFailed) ∧
      ch.countDelivery.contact = .engaged ∧ ch.countDelivery.theta = 0
  · rw [Channel.engageAtZero, if_pos hs]
    refine .inl ?_
    rw [ch.countDelivery_state] at hs
    rcases hs.1 with hst | hst <;> simp only [Channel.countDelivery, hst] <;> exact { h with lock := nofun }
  · rw [Channel.engageAtZero, if_neg hs]; exact countDelivery_overdue h

theorem Channel.takeDelivery_overdue {ch : Channel} (h : ch.TimersAtMost 1000) (hold : HoldMode) (slew : Nat) (v : Int) :
    (ch.takeDelivery hold slew v).TimersAtMost 1000 ∨ (ch.takeDelivery hold slew v).Overdue := by
  have scheduled : ({ ch with sched := v } : Channel).TimersAtMost 1000 := { h with }
  exact (Channel.engageAtZero_overdue (scheduled.applyTarget hold slew v)).imp (fun h => { h with }) id

/-! ### Released states and absence -/

/-- The change leaves no state released that was not. -/
def Unreleased (c d : Channel) : Prop := d.state.released = true → c.state.released = true

namespace Channel

variable (ch : Channel)

theorem applyTarget_unreleased (hold : HoldMode) (slew : Nat) (v : Int) : Unreleased ch (ch.applyTarget hold slew v) := by
  unfold Unreleased Channel.applyTarget
  (repeat' split) <;> simp_all [ChanState.released]

theorem engageAtZero_unreleased : Unreleased ch ch.engageAtZero := by
  unfold Unreleased Channel.engageAtZero
  split_ifs
  exacts [nofun, id]

theorem takeDelivery_unreleased (hold : HoldMode) (slew : Nat) (v : Int) : Unreleased ch (ch.takeDelivery hold slew v) := by
  intro h
  have h := engageAtZero_unreleased _ h
  rw [countDelivery_state] at h
  exact applyTarget_unreleased { ch with sched := v } hold slew v h

theorem toFaulted_unreleased : Unreleased ch ch.toFaulted := by
  unfold Unreleased Channel.toFaulted; dsimp only; split_ifs <;> exact nofun

theorem takeEngaged_not_released : ch.takeEngaged.state.released = false := by
  unfold Channel.takeEngaged; split_ifs <;> rfl

theorem toEngaging_not_released : ch.toEngaging.state.released = false := by
  unfold Channel.toEngaging; dsimp only; split_ifs
  exacts [takeEngaged_not_released _, rfl]

theorem toTracking_steers (hold : HoldMode) : (ch.toTracking hold).state.steers = true := by
  unfold Channel.toTracking; dsimp only; split_ifs <;> rfl

theorem seekAct_state (duty : Nat) : (ch.seekAct duty).state = ch.state ∨ (ch.seekAct duty).state = .homing .engaging := by
  unfold Channel.seekAct; split
  exacts [.inl rfl, .inl rfl, .inr rfl]

theorem seekAct_unreleased (duty : Nat) : Unreleased ch (ch.seekAct duty) := fun h => by
  rcases ch.seekAct_state duty with hs | hs <;> rw [hs] at h
  exacts [h, absurd h nofun]

theorem sensorRange_unreleased : Unreleased ch ch.sensorRange := by
  unfold Unreleased Channel.sensorRange; split
  exacts [id, fun h => toFaulted_unreleased _ h]

theorem completionWork_unreleased (t : ConfigTable) (cfg : ChanConfig) (fresh : Bool) (raw : Nat) :
    Unreleased ch (ch.completionWork t cfg fresh raw).ch := by
  unfold Unreleased Channel.completionWork
  (repeat' split)
  case h_1.isFalse.isTrue.isFalse => exact toFaulted_unreleased ch
  case h_1.isFalse.isFalse =>
    exact fun h => absurd (seekAct_unreleased { ch with state := .homing .seeking, solenoid := true } _ h) nofun
  case h_5.isTrue => exact fun h => absurd h (by simp [toEngaging_not_released])
  all_goals first | exact id | exact nofun

theorem contactChange_unreleased (t : ConfigTable) (hold : HoldMode) (r : Contact) :
    Unreleased ch (ch.contactChange t hold r).ch := by
  have awaiting (h : ch.state = .releasing .awaiting) (d : Channel) : Unreleased ch d := fun _ => by rw [h]; rfl
  have engaged (d : Channel) : Unreleased ch d.takeEngaged := fun h => absurd h (by simp [takeEngaged_not_released])
  unfold Channel.contactChange; dsimp only
  (repeat' split)
  case h_1.isTrue.isFalse => exact fun h => absurd (toFaulted_unreleased { ch with contact := r } h) (by simp [*, ChanState.released])
  case h_4.isTrue => exact awaiting ‹_› _
  case h_5 => exact fun _ => by simp [*, ChanState.released]
  case h_8.isTrue => exact engaged _
  case h_9 => exact engageAtZero_unreleased { ch with contact := r, lockT := watchEngaged ch.contact r ch.lockT }
  case h_11 => exact engageAtZero_unreleased { ch with contact := r }
  all_goals first | exact id | exact nofun

end Channel

/-! ### Channel events -/

/-- The scope with the bound on channel k's timers replaced. -/
def Scope.setTimer (p : Scope) (k : Chan) (n : Nat) : Scope := { p with timer := fun j => if j = k then n else p.timer j }

/-- The scope with the bound on channel k's persistence count replaced. -/
def Scope.setPersist (p : Scope) (k : Chan) (n : Nat) : Scope :=
  { p with persist := fun j => if j = k then n else p.persist j }

theorem Scope.setTimer_self (p : Scope) (k : Chan) : p.setTimer k (p.timer k) = p := by
  have : (fun j => if j = k then p.timer k else p.timer j) = p.timer := by
    funext j; split_ifs with h
    exacts [h ▸ rfl, rfl]
  simp [Scope.setTimer, this]

theorem Scope.setTimer_setTimer (p : Scope) (k : Chan) (n m : Nat) : (p.setTimer k n).setTimer k m = p.setTimer k m := by
  simp only [Scope.setTimer, Scope.mk.injEq, true_and]
  funext j; split_ifs <;> rfl

theorem Scope.setPersist_self (p : Scope) (k : Chan) : p.setPersist k (p.persist k) = p := by
  have : (fun j => if j = k then p.persist k else p.persist j) = p.persist := by
    funext j; split_ifs with h
    exacts [h ▸ rfl, rfl]
  simp [Scope.setPersist, this]

section

variable {p : Scope} {s₀ s : State} {k : Chan}

theorem Told.inRange (h : Told p s₀ s) (k : Chan) : (s.ac.get k).InRange p.raw (p.persist k) := (h.channels k).1

theorem Told.timers (h : Told p s₀ s) (k : Chan) : (s.ac.get k).TimersAtMost (p.timer k) := (h.channels k).2

theorem Told.admits (h : Told p s₀ s) (q : ParamRef) : q.admits (q.get s.ct.table) = true := h.config.1 q

/-- An event's change of channel k's record, outside requests: its timers may be bounded anew. -/
theorem Told.event (h : Told p s₀ s) (hq : ¬p.requests) {st : ChanStep} {n m : Nat} (hr : st.ch.InRange p.raw m)
    (ht : st.ch.TimersAtMost n) (hrel : Unreleased (s.ac.get k) st.ch) (hc : ∀ c ∈ st.faults, c ∈ channelCodes) :
    Told ((p.setTimer k n).setPersist k m) s₀ (commit k st s) :=
  h.changeTo (q := (p.setTimer k n).setPersist k m) { h.toCore with } rfl id (fun j hj => ⟨rfl, if_neg hj, if_neg hj⟩)
    { record := by simpa [Scope.setPersist, Scope.setTimer] using hr
      timers := by simpa [Scope.setTimer, Scope.setPersist] using ht
      absent := fun hr => absurd hr hq, released := fun hr => .inl (hrel hr), codes := hc, quiet := fun hr => absurd hr hq }

/-- The same with the bounds as they stand. -/
theorem Told.eventHere (h : Told p s₀ s) (hq : ¬p.requests) {st : ChanStep} (hr : st.ch.InRange p.raw (p.persist k))
    (ht : st.ch.TimersAtMost (p.timer k)) (hrel : Unreleased (s.ac.get k) st.ch) (hc : ∀ c ∈ st.faults, c ∈ channelCodes) :
    Told p s₀ (commit k st s) := by
  have hp := h.event hq hr ht hrel hc
  rwa [Scope.setPersist, show (p.setTimer k (p.timer k)) = p from p.setTimer_self k, ← Scope.setPersist,
    Scope.setPersist_self] at hp

/-- An expiry: whatever the timers of channel k stood at, they are bounded anew. -/
theorem Told.expires (h : Told p s₀ s) (hq : ¬p.requests) {st : ChanStep} (n : Nat)
    (hr : st.ch.InRange p.raw (p.persist k)) (ht : st.ch.TimersAtMost n) (hrel : Unreleased (s.ac.get k) st.ch)
    (hc : ∀ c ∈ st.faults, c ∈ channelCodes) : Told (p.setTimer k n) s₀ (commit k st s) := by
  have hp := h.event hq hr ht hrel hc
  rwa [show p.persist k = (p.setTimer k n).persist k from rfl, Scope.setPersist_self] at hp

/-! ### The thresholds -/

theorem mem_channelCodes_of_eq {c d : FaultCode} (hd : d ∈ channelCodes) (h : c ∈ [d]) : c ∈ channelCodes :=
  List.mem_singleton.1 h ▸ hd

theorem homingTimeout_expires (h : Told p s₀ s) (hq : ¬p.requests) (n : Nat)
    (hdue : (s.ac.get k).state.homes ∧ reached (s.ac.get k).homingT s.ct.table.homingLimit = true) :
    Told (p.setTimer k n) s₀ (homingTimeout k s) := by
  rw [show homingTimeout k s = commit k ⟨(s.ac.get k).toFaulted, [.homingTimeout]⟩ s from if_pos hdue]
  exact h.expires hq n (h.inRange k).toFaulted (Channel.toFaulted_atMost _ n) (Channel.toFaulted_unreleased _)
    fun c => mem_channelCodes_of_eq (by decide)

theorem homingTimeout_told (h : Told p s₀ s) (hq : ¬p.requests) : Told p s₀ (homingTimeout k s) := by
  by_cases hdue : (s.ac.get k).state.homes ∧ reached (s.ac.get k).homingT s.ct.table.homingLimit = true
  · exact p.setTimer_self k ▸ homingTimeout_expires h hq _ hdue
  · rwa [show homingTimeout k s = s from if_neg hdue]

theorem lockStuck_expires (h : Told p s₀ s) (hq : ¬p.requests) (n : Nat)
    (hdue : (s.ac.get k).state.awaitsRelease ∧ reached (s.ac.get k).lockT s.ct.used.lockTime = true) :
    Told (p.setTimer k n) s₀ (lockStuck k s) := by
  rw [show lockStuck k s = commit k ⟨(s.ac.get k).toFaulted, [.lockStuck]⟩ s from if_pos hdue]
  exact h.expires hq n (h.inRange k).toFaulted (Channel.toFaulted_atMost _ n) (Channel.toFaulted_unreleased _)
    fun c => mem_channelCodes_of_eq (by decide)

theorem lockStuck_told (h : Told p s₀ s) (hq : ¬p.requests) : Told p s₀ (lockStuck k s) := by
  by_cases hdue : (s.ac.get k).state.awaitsRelease ∧ reached (s.ac.get k).lockT s.ct.used.lockTime = true
  · exact p.setTimer_self k ▸ lockStuck_expires h hq _ hdue
  · rwa [show lockStuck k s = s from if_neg hdue]

theorem lockFail_expires (h : Told p s₀ s) (hq : ¬p.requests) (n : Nat)
    (hdue : (s.ac.get k).state.watchesLock ∧ reached (s.ac.get k).lockT s.ct.used.lockTime = true) :
    Told (p.setTimer k n) s₀ (lockFail k s) := by
  rw [show lockFail k s = commit k ⟨(s.ac.get k).toLockFailed, [.lockFail]⟩ s from if_pos hdue]
  exact h.expires hq n (h.inRange k).toLockFailed (Channel.toLockFailed_atMost _ n) nofun
    fun c => mem_channelCodes_of_eq (by decide)

theorem lockFail_told (h : Told p s₀ s) (hq : ¬p.requests) : Told p s₀ (lockFail k s) := by
  by_cases hdue : (s.ac.get k).state.watchesLock ∧ reached (s.ac.get k).lockT s.ct.used.lockTime = true
  · exact p.setTimer_self k ▸ lockFail_expires h hq _ hdue
  · rwa [show lockFail k s = s from if_neg hdue]

theorem settleFramesReached_expires (h : Told p s₀ s) (hq : ¬p.requests) (n : Nat)
    (hdue : (s.ac.get k).state = .releasing .settling ∧ reached (s.ac.get k).settle s.ct.table.settleFrames = true) :
    Told (p.setTimer k n) s₀ (settleFramesReached k s) := by
  rw [show settleFramesReached k s = commit k ⟨(s.ac.get k).toTracking s.sv.hold, []⟩ s from if_pos hdue]
  exact h.expires hq n ((h.inRange k).toTracking _ _) (Channel.toTracking_atMost _ n _) (fun _ => by rw [hdue.1]; rfl) nofun

theorem settleFramesReached_told (h : Told p s₀ s) (hq : ¬p.requests) : Told p s₀ (settleFramesReached k s) := by
  by_cases hdue : (s.ac.get k).state = .releasing .settling ∧
      reached (s.ac.get k).settle s.ct.table.settleFrames = true
  · exact p.setTimer_self k ▸ settleFramesReached_expires h hq _ hdue
  · rwa [show settleFramesReached k s = s from if_neg hdue]

theorem centringTimerExpiry_expires (h : Told p s₀ s) (hq : ¬p.requests) (n : Nat)
    (hdue : (s.ac.get k).state = .centring .stepping ∧ reached (s.ac.get k).centringT s.ct.table.homingLimit = true) :
    Told (p.setTimer k n) s₀ (centringTimerExpiry k s) := by
  rw [show centringTimerExpiry k s = commit k ⟨((commit k ⟨{ s.ac.get k with mark := true },
      if (s.ac.get k).mark then [] else [.trackingError]⟩ s).ac.get k).toEngaging, []⟩
    (commit k ⟨{ s.ac.get k with mark := true }, if (s.ac.get k).mark then [] else [.trackingError]⟩ s) from if_pos hdue]
  have marked : Told p s₀ (commit k ⟨{ s.ac.get k with mark := true },
      if (s.ac.get k).mark then [] else [.trackingError]⟩ s) := by
    refine h.eventHere hq { h.inRange k with } { h.timers k with } (fun hr => hr) ?_
    split_ifs
    exacts [nofun, fun c => mem_channelCodes_of_eq (by decide)]
  exact marked.expires hq n (marked.inRange k).toEngaging (Channel.toEngaging_atMost _ n)
    (fun hr => absurd hr (by simp [Channel.toEngaging_not_released])) nofun

theorem centringTimerExpiry_told (h : Told p s₀ s) (hq : ¬p.requests) : Told p s₀ (centringTimerExpiry k s) := by
  by_cases hdue : (s.ac.get k).state = .centring .stepping ∧
      reached (s.ac.get k).centringT s.ct.table.homingLimit = true
  · exact p.setTimer_self k ▸ centringTimerExpiry_expires h hq _ hdue
  · rwa [show centringTimerExpiry k s = s from if_neg hdue]

theorem trackingError_expires (h : Told p s₀ s) (hq : ¬p.requests) (m : Nat)
    (hdue : (s.ac.get k).state.steers = true ∧ (s.ct.table.chan.get k).persistLimit ≤ (s.ac.get k).persist) :
    Told (p.setPersist k m) s₀ (trackingError k s) := by
  rw [show trackingError k s = commit k ⟨(s.ac.get k).toCentring true, [.trackingError]⟩ s from if_pos hdue]
  have hp := h.event hq (k := k) (n := p.timer k) ((h.inRange k).toCentring true m) (Channel.toCentring_atMost _ _ true)
    (st := ⟨(s.ac.get k).toCentring true, [.trackingError]⟩) nofun fun c => mem_channelCodes_of_eq (by decide)
  rwa [p.setTimer_self] at hp

theorem trackingError_told (h : Told p s₀ s) (hq : ¬p.requests) : Told p s₀ (trackingError k s) := by
  by_cases hdue : (s.ac.get k).state.steers = true ∧ (s.ct.table.chan.get k).persistLimit ≤ (s.ac.get k).persist
  · exact p.setPersist_self k ▸ trackingError_expires h hq _ hdue
  · rwa [show trackingError k s = s from if_neg hdue]

/-! ### Target deliveries -/

/-- The thresholds that a delivery may reach, in their order (R45). -/
def expiries (k : Chan) (s : State) : State :=
  lockFail k (centringTimerExpiry k (settleFramesReached k (lockStuck k (homingTimeout k s))))

theorem expiries_told (h : Told p s₀ s) (hq : ¬p.requests) : Told p s₀ (expiries k s) :=
  lockFail_told (centringTimerExpiry_told (settleFramesReached_told (lockStuck_told (homingTimeout_told h hq) hq) hq) hq) hq

/-- The thresholds after a delivery leave no timer past its limit. -/
theorem expiries_expire (h : Told p s₀ s) (hq : ¬p.requests) (hdue : (s.ac.get k).Overdue)
    (hused : s.ct.used.lockTime ≤ 1000) : Told (p.setTimer k 1000) s₀ (expiries k s) := by
  have hhl := homingLimit_le h.config.1
  have hsf : s.ct.table.settleFrames ≤ 1000 := (settleFrames_le h.config.1).trans (by omega)
  have homing (hs : ¬(s.ac.get k).state.homes) : homingTimeout k s = s := if_neg fun h => hs h.1
  have stuck (hs : ¬(s.ac.get k).state.awaitsRelease) : lockStuck k s = s := if_neg fun h => hs h.1
  have settle (hs : (s.ac.get k).state ≠ .releasing .settling) : settleFramesReached k s = s := if_neg fun h => hs h.1
  have centring (hs : (s.ac.get k).state ≠ .centring .stepping) : centringTimerExpiry k s = s := if_neg fun h => hs h.1
  unfold expiries
  rcases hdue with ⟨hs, ht⟩ | ⟨hs, ht⟩ | ⟨hs, ht⟩ | ⟨hs, ht⟩ | ⟨hs, ht⟩
  · exact lockFail_told (centringTimerExpiry_told (settleFramesReached_told (lockStuck_told
      (homingTimeout_expires h hq 1000 ⟨hs, ht.reached hhl⟩) hq) hq) hq) hq
  · rw [homing (by rcases hs with hs | hs | hs <;> simp [ChanState.homes, hs])]
    exact lockFail_told (centringTimerExpiry_told (settleFramesReached_told
      (lockStuck_expires h hq 1000 ⟨hs, ht.reached hused⟩) hq) hq) hq
  · rw [homing (by simp [ChanState.homes, hs]), stuck (by simp [ChanState.awaitsRelease, hs])]
    exact lockFail_told (centringTimerExpiry_told
      (settleFramesReached_expires h hq 1000 ⟨hs, ht.reached hsf⟩) hq) hq
  · rw [homing (by simp [ChanState.homes, hs]), stuck (by simp [ChanState.awaitsRelease, hs]), settle (by simp [hs])]
    exact lockFail_told (centringTimerExpiry_expires h hq 1000 ⟨hs, ht.reached hhl⟩) hq
  · rw [homing, stuck, settle, centring]
    · exact lockFail_expires h hq 1000 ⟨hs, ht.reached hused⟩
    all_goals rcases hs with hs | hs | hs | hs | hs <;> simp [ChanState.homes, ChanState.awaitsRelease, hs]

/-- A delivery keeps the timers of its channel within their longest limit: one that it brings past it expires. -/
theorem deliver_told (h : Told p s₀ s) (hq : ¬p.requests) (ht : p.timer k = 1000) {v : Int} (hv : v.natAbs ≤ 800)
    (hused : s.ct.used.lockTime ≤ 1000) : Told p s₀ (deliver k v s) := by
  show Told p s₀ (expiries k (commit k ⟨(s.ac.get k).takeDelivery s.sv.hold (s.ct.table.chan.get k).slew v, []⟩ s))
  have hold : (s.ac.get k).TimersAtMost 1000 := ht ▸ h.timers k
  have hr := (h.inRange k).takeDelivery s.sv.hold (slew := (s.ct.table.chan.get k).slew) hv
  have hrel := Channel.takeDelivery_unreleased (s.ac.get k) s.sv.hold (s.ct.table.chan.get k).slew v
  rcases Channel.takeDelivery_overdue hold s.sv.hold (s.ct.table.chan.get k).slew v with hc | hc
  · exact expiries_told (h.eventHere hq hr (ht ▸ hc) hrel nofun) hq
  · have late := h.expires hq (st := ⟨_, []⟩) 1001 hr (hold.takeDelivery _ _ _) hrel nofun
    have expired := expiries_expire (k := k) late hq (by rwa [commit_get_self _ _ _ rfl])
      (by rw [(commit_onlyAcSv _ _ _).2.2.2.2.2.2.2.1]; exact hused)
    rwa [p.setTimer_setTimer, ← ht, p.setTimer_self] at expired

/-! ### Conversions, drives and sensors -/

/-- A new record with the state and mark of the old one needs no report. -/
theorem Told.put (h : Told p s₀ s) {ch : Channel} (hst : ch.state = (s.ac.get k).state ∧ ch.mark = (s.ac.get k).mark)
    (hr : ch.InRange p.raw (p.persist k)) (ht : ch.TimersAtMost (p.timer k)) : Told p s₀ (putChannel k ch s) := by
  have get (j : Chan) : j = k ∧ (s.ac.set k ch).get j = ch ∨ (s.ac.set k ch).get j = s.ac.get j := by
    by_cases hj : j = k
    · exact .inl ⟨hj, hj ▸ Quad.get_set_self _ _ _⟩
    · exact .inr (Quad.get_set_ne _ _ hj)
  have same (j : Chan) : ((s.ac.set k ch).get j).state = (s.ac.get j).state ∧
      ((s.ac.set k ch).get j).mark = (s.ac.get j).mark := by
    obtain ⟨rfl, hj⟩ | hj := get j <;> rw [hj]
    exacts [hst, ⟨rfl, rfl⟩]
  refine { h.toCore with
    channels := fun j => ?_, absent := fun hp j => ?_, bogie := ⟨fun j hj => ?_, fun hl j => ?_⟩, seen := fun j => ?_ }
  · obtain ⟨rfl, hj⟩ | hj := get j <;> rw [putChannel_ac, hj]
    exacts [⟨hr, ht⟩, h.channels j]
  · rw [putChannel_ac, (same j).1]; exact h.absent hp j
  · rw [putChannel_ac, callsPartnerRule_congr (same j)] at hj
    rw [putChannel_ac, (same j.partner).1]; exact h.bogie.1 j hj
  · rw [putChannel_ac, (same j).1]; exact h.bogie.2 hl j
  · rw [putChannel_ac, (same j).1, (same j).2]; exact h.seen j

theorem clamp_natAbs (x : Int) (n : Nat) : (clamp x (-(n : Int)) n).natAbs ≤ n := by unfold clamp; omega

theorem loadLoopDuty_told (h : Told p s₀ s) : Told p s₀ (loadLoopDuty k s) := by
  have hd := dmax_le h.config.1 k
  unfold loadLoopDuty; dsimp only; split_ifs
  · exact h.put ⟨rfl, rfl⟩ { h.inRange k with
      drive := Drive.load_inRange (h.inRange k).drive ((clamp_natAbs _ _).trans hd) } { h.timers k with }
  · exact h

theorem drivePeriodStart_told (h : Told p s₀ s) : Told p s₀ (drivePeriodStart k s) :=
  h.put ⟨rfl, rfl⟩ { h.inRange k with drive := Drive.periodStart_inRange (h.inRange k).drive } { h.timers k with }

theorem trunc_natAbs_le (a : Int) (b : Nat) : (trunc a b).natAbs = a.natAbs / b := by
  simp [trunc, Int.natAbs_tdiv]; rfl

/-- With codes of 12 bits, a zero code of 12 bits and a scale of 255 at most, m lies within 16,320 (R94). -/
theorem measured_le {raw z c : Nat} (hr : raw ≤ 4095) (hz : z ≤ 4095) (hc : c ≤ 255) : (measured raw z c).natAbs ≤ 16320 := by
  have hm : (((raw : Int) - z) * c).natAbs ≤ 4095 * 255 := by
    rw [Int.natAbs_mul, Int.natAbs_natCast]
    exact Nat.mul_le_mul (by omega) hc
  have : (measured raw z c).natAbs = (((raw : Int) - z) * c).natAbs / 64 := trunc_natAbs_le _ 64
  omega

/-- The completion of an in-range conversion raises HOMING_DISAGREE or nothing (R99). -/
theorem completionWork_faults (t : ConfigTable) (cfg : ChanConfig) (fresh : Bool) (raw : Nat) (ch : Channel) :
    (ch.completionWork t cfg fresh raw).faults = [] ∨ (ch.completionWork t cfg fresh raw).faults = [.homingDisagree] := by
  unfold Channel.completionWork
  (repeat' split)
  case h_1.isFalse.isTrue.isFalse => exact .inr rfl
  all_goals exact .inl rfl

/-- Only verification counts persistence, in TRACKING and HOLDING (R108). -/
theorem completionWork_counts {ch : Channel} {n : Nat} (h : ch.persist ≤ n) (t : ConfigTable) (cfg : ChanConfig)
    (fresh : Bool) (raw : Nat) : (ch.completionWork t cfg fresh raw).ch.persist ≤ n ∨
      (ch.completionWork t cfg fresh raw).ch.state.steers = true := by
  have entered {d : Channel} (hd : d.persist = ch.persist) : d.persist ≤ n := hd ▸ h
  unfold Channel.completionWork
  (repeat' split)
  case h_3.isTrue | h_3.isFalse | h_4.isTrue | h_4.isFalse => exact .inr (by simp [ChanState.steers, *])
  case h_1.isFalse.isFalse => exact .inl (entered (by unfold Channel.toSeeking Channel.seekAct; split <;> rfl))
  case h_5.isTrue =>
    refine .inl (entered ?_)
    unfold Channel.toEngaging Channel.takeEngaged; dsimp only; split_ifs <;> rfl
  all_goals exact .inl h

theorem completionWork_of_unhomed {ch : Channel} (h : ch.state = .unhomed) (t : ConfigTable) (cfg : ChanConfig)
    (fresh : Bool) (raw : Nat) : ch.completionWork t cfg fresh raw = ⟨ch, []⟩ := by
  simp only [Channel.completionWork, h]

theorem completeConversion_told (h : Told p s₀ s) (hq : ¬p.requests) (hp : p.persist k = 100) {raw : Nat}
    (hraw : p.raw → raw ≤ 4095) : Told p s₀ (completeConversion k raw s) := by
  have hz := (h.inRange k).zero
  unfold completeConversion; extract_lets old cfg
  split
  · exact h
  · rename_i freshRequest _
    generalize hch : ({ old with
      conv := if freshRequest = true then .inFlight false else .none, m := measured raw old.z cfg.scale } : Channel) = ch
    have hr : ch.InRange p.raw 100 := by
      subst hch
      exact { hp ▸ h.inRange k with measured := fun hp => measured_le (hraw hp) hz (scale_le h.config.1 k) }
    have ht : ch.TimersAtMost (p.timer k) := by subst hch; exact { h.timers k with }
    have hst : ch.state = (s.ac.get k).state := by subst hch; rfl
    have unreleased {d : Channel} (hd : Unreleased ch d) : Unreleased (s.ac.get k) d := fun hr => hst ▸ hd hr
    dsimp only
    by_cases hrange : codeOutOfRange raw = true ∧ ch.state ≠ .unhomed
    · rw [if_pos hrange]
      exact h.eventHere hq (hp ▸ hr.sensorRange) ht.sensorRange (unreleased (Channel.sensorRange_unreleased ch))
        fun c => mem_channelCodes_of_eq (by decide)
    · rw [if_neg hrange]
      have htimers := ht.completionWork raw s.ct.table cfg (!freshRequest)
      have hrel := unreleased (Channel.completionWork_unreleased ch s.ct.table cfg (!freshRequest) raw)
      have hfaults := completionWork_faults s.ct.table cfg (!freshRequest) raw ch
      have hwork : (ch.completionWork s.ct.table cfg (!freshRequest) raw).ch.InRange p.raw 101 := by
        by_cases hun : ch.state = .unhomed
        · rw [completionWork_of_unhomed hun]; exact hr.mono (Nat.le_succ 100)
        · refine hr.completionWork ?_ _ (homingDuty_le h.config.1 k) _
          have : ¬4087 ≤ raw := fun hc => hrange ⟨by simp [codeOutOfRange, Config.codeHigh, hc], hun⟩
          omega
      have hsteer := completionWork_counts hr.persist s.ct.table cfg (!freshRequest) raw
      generalize ch.completionWork s.ct.table cfg (!freshRequest) raw = st at *
      have hcodes : ∀ c ∈ st.faults, c ∈ channelCodes := by rcases hfaults with hf | hf <;> rw [hf] <;> decide
      have hfail : st.faults.contains .lockFail = false := by rcases hfaults with hf | hf <;> rw [hf] <;> rfl
      have verified : Told p s₀ (trackingError k (commit k st s)) := by
        by_cases hper : st.ch.persist ≤ 100
        · exact trackingError_told (h.eventHere hq (hp ▸ { hwork with persist := hper }) htimers hrel hcodes) hq
        · have counted := h.event hq (k := k) (n := p.timer k) hwork htimers hrel hcodes
          rw [p.setTimer_self] at counted
          have hget := commit_get_self k st s hfail
          have hct := (commit_onlyAcSv k st s).2.2.2.2.2.2.2.1
          have expired := trackingError_expires counted hq (k := k) 100 ⟨by rw [hget]; exact hsteer.resolve_left hper, by
            have := persistLimit_le h.config.1 k
            rw [hget, hct]; omega⟩
          rwa [show (p.setPersist k 101).setPersist k 100 = p.setPersist k 100 by
            simp only [Scope.setPersist, Scope.mk.injEq, true_and, and_true]; funext j; split_ifs <;> rfl,
            ← hp, p.setPersist_self] at expired
      exact .ite verified (loadLoopDuty_told verified)

theorem contactChange_codes (t : ConfigTable) (hold : HoldMode) (r : Contact) (ch : Channel) :
    ∀ c ∈ (ch.contactChange t hold r).faults, c ∈ channelCodes := by
  unfold Channel.contactChange; dsimp only
  (repeat' split)
  case h_1.isTrue.isFalse => exact fun c => mem_channelCodes_of_eq (by decide)
  all_goals exact nofun

theorem lockContactChange_told (h : Told p s₀ s) (hq : ¬p.requests) (lke lkr : Bool) :
    Told p s₀ (lockContactChange k lke lkr s) :=
  .ite h (h.eventHere hq ((h.inRange k).contactChange _ _ _) ((h.timers k).contactChange _ _ _)
    (Channel.contactChange_unreleased _ _ _ _) (contactChange_codes _ _ _ _))

theorem centreSensorChange_told (h : Told p s₀ s) (hq : ¬p.requests) (ctl ctr : Bool) :
    Told p s₀ (centreSensorChange k ctl ctr s) := by
  have read : ({ s.ac.get k with centre := decodeCentre ctl ctr } : Channel).InRange p.raw (p.persist k) :=
    { h.inRange k with }
  have timed : ({ s.ac.get k with centre := decodeCentre ctl ctr } : Channel).TimersAtMost (p.timer k) :=
    { h.timers k with }
  refine .ite h (h.eventHere hq ?_ ?_ ?_ nofun) <;> dsimp only [Channel.centreChange] <;> split_ifs
  exacts [read.seekAct (homingDuty_le h.config.1 k), read, timed.seekAct _, timed,
    Channel.seekAct_unreleased { s.ac.get k with centre := decodeCentre ctl ctr } _, id]

end

end Sys2Proof.Machine

/-! # What the Route Window and the Arbiter keep -/

namespace Sys2Proof.Machine

/-! ### Lists of records -/

theorem totalLength_append (l r : List Segment) : totalLength (l ++ r) = totalLength l + totalLength r := by
  induction l with
  | nil => exact (Nat.zero_add _).symm
  | cons g l ih => simp only [List.cons_append, totalLength, ih, Nat.add_assoc]

theorem indexedUpTo_suffix {n : Nat} {l r : List Segment} (h : IndexedUpTo n (l ++ r)) : IndexedUpTo n r := by
  induction l with
  | nil => exact h
  | cons g l ih => exact ih h.2

/-- A record with the next expected index joins records indexed up to the one before it (R8, R21). -/
theorem indexedUpTo_append {n : Nat} {l : List Segment} {g : Segment} (h : IndexedUpTo n l) (hl : l.length < 48)
    (hn : n < 65536) (hg : g.index = n) : IndexedUpTo ((n + 1) % 65536) (l ++ [g]) := by
  induction l with
  | nil =>
    refine ⟨?_, trivial⟩
    simp only [List.length_nil, Config.wrap16]; omega
  | cons x l ih =>
    have hlen : l.length + 1 < 48 := by simpa using hl
    refine ⟨?_, ih h.2 (by omega)⟩
    have hx := h.1
    simp only [List.append_eq, List.length_append, List.length_cons, List.length_nil, Config.wrap16] at hx ⊢
    omega

theorem indexedUpTo_map {n : Nat} {l : List Segment} {f : Segment → Segment} (hf : ∀ g, (f g).index = g.index)
    (h : IndexedUpTo n l) : IndexedUpTo n (l.map f) := by
  induction l with
  | nil => trivial
  | cons g l ih => exact ⟨by rw [hf, List.length_map]; exact h.1, ih h.2⟩

theorem totalLength_map {l : List Segment} {f : Segment → Segment} (hf : ∀ g, (f g).length = g.length) :
    totalLength (l.map f) = totalLength l := by
  induction l with
  | nil => rfl
  | cons g l ih => simp only [List.map_cons, totalLength, hf, ih]

/-! ### Retirement and lookup (R9, R11) -/

/-- Retirement drops records from the rear, and the rear boundary advances by their lengths (R11). -/
theorem retireFrom_drops (bound : Int) (rear : Nat) (l : List Segment) :
    ∃ d, l = d ++ (retireFrom bound rear l).2 ∧ (retireFrom bound rear l).1 = rear + totalLength d := by
  induction l generalizing rear with
  | nil => exact ⟨[], rfl, rfl⟩
  | cons g l ih =>
    unfold retireFrom; split_ifs
    · obtain ⟨d, hd, hr⟩ := ih (rear + g.length)
      exact ⟨g :: d, by rw [List.cons_append, ← hd], by rw [hr, totalLength, Nat.add_assoc]⟩
    · exact ⟨[], rfl, rfl⟩

/-- The record found covers the point, and is one of the window's (R9). -/
theorem lookupFrom_some {start : Nat} {l : List Segment} {x : Int} {c : Covering} (h : lookupFrom start l x = some c) :
    (c.start : Int) ≤ x ∧ x < c.start + c.length ∧ ∃ g ∈ l, c.geo = g.geo := by
  induction l generalizing start with
  | nil => exact absurd h nofun
  | cons g l ih =>
    unfold lookupFrom at h; split_ifs at h with hx
    · obtain rfl := Option.some.inj h
      exact ⟨hx.1, hx.2, g, List.mem_cons_self, rfl⟩
    · obtain ⟨h1, h2, g', hg', hgeo⟩ := ih h
      exact ⟨h1, h2, g', List.mem_cons_of_mem g hg', hgeo⟩

theorem lookup_valid {rw : Rw} (hv : ∀ g ∈ rw.segs, g.Valid) {x : Int} {c : Covering} (h : rw.lookup x = some c) :
    c.Valid x := by
  unfold Rw.lookup at h; split_ifs at h
  obtain ⟨h1, h2, g, hg, hgeo⟩ := lookupFrom_some h
  obtain ⟨-, -, -, hgv, -⟩ := hv g hg
  exact ⟨h1, h2, hgeo ▸ hgv⟩

/-- The window after retirement differs from the one before in its rear and its records alone. -/
theorem retired_eq (s : State) (sample : Sample) :
    ∃ d segs, s.rw.segs = d ++ segs ∧ retired s sample = { s.rw with rear := s.rw.rear + totalLength d, segs := segs } := by
  unfold retired; split
  · exact ⟨[], s.rw.segs, rfl, rfl⟩
  · rename_i pMin _
    obtain ⟨d, hd, hr⟩ := retireFrom_drops (pMin - s.ct.table.retention) s.rw.rear s.rw.segs
    exact ⟨d, _, hd, by rw [← hr]⟩

theorem windowInv_retired {s : State} (h : WindowInv s) (ho : s.rw.isOpen = true) (sample : Sample) (low : Bool) :
    WindowInv (s.setRw { retired s sample with horizonLow := low }) ∧ ∀ g ∈ (retired s sample).segs, g.Valid := by
  obtain ⟨hlen, hval, hfront, hmax, hnext, hidx, -, hconf⟩ := h
  obtain ⟨d, segs, hsegs, hret⟩ := retired_eq s sample
  rw [hsegs] at hlen hval hfront hidx
  rw [totalLength_append] at hfront
  rw [List.length_append] at hlen
  have valid : ∀ g ∈ segs, g.Valid := fun g hg => hval g (List.mem_append_right d hg)
  rw [hret]
  refine ⟨⟨(Nat.le_add_left _ _).trans hlen, valid, ?_, hmax, hnext, indexedUpTo_suffix hidx,
    fun hc => absurd (ho.symm.trans hc) nofun, hconf⟩, valid⟩
  rw [State.setRw_rw]; dsimp only; omega

/-! ### Segments as requested (R20) -/

theorem segGeometry_valid {f : SegmentFields} {g : Geometry} (h : segGeometry f = some g) : g.Valid := by
  have bound {κ : Int} (hk : curvatureOk κ = true) : κ.natAbs ≤ 125000 := by
    simp [curvatureOk] at hk; omega
  unfold segGeometry at h; dsimp only at h
  split_ifs at h with h1 h2 h3 h4 <;> obtain rfl := Option.some.inj h
  exacts [trivial, bound h2.2.2, ⟨bound h3.2.2.1, bound h3.2.2.2⟩, ⟨bound h4.2.2.1, h4.2.2.2⟩]

/-- A segment whose fields are valid is a valid record with the index requested, and fits before the end of the route. -/
theorem segmentOf_some {f : SegmentFields} {front : Nat} {g : Segment} (h : segmentOf f front = some g)
    (hi : f.index < 65536) : g.Valid ∧ g.index = f.index ∧ front + g.length ≤ 1000000000 := by
  unfold segmentOf at h
  by_cases hf : 100 ≤ f.length ∧ f.length ≤ 500000 ∧ f.marker < 16 ∧ segBeaconOk f = true ∧
      front + f.length ≤ Config.frontMax
  · rw [if_pos hf] at h
    obtain ⟨hlo, hhi, -, hb, hmax⟩ := hf
    obtain ⟨geo, hgeo, rfl⟩ := Option.map_eq_some_iff.1 h
    refine ⟨⟨hi, hlo, hhi, segGeometry_valid hgeo, ?_⟩, rfl, hmax⟩
    unfold segBeaconOk at hb
    cases hbit : segHasBeacon f <;> simp only [Bool.false_eq_true, if_false, if_true]
    simpa [hbit, and_assoc] using hb
  · rw [if_neg hf] at h; exact absurd h nofun

theorem applyMark_keeps (m : Mark) (g : Segment) : (g.applyMark m).index = g.index ∧ (g.applyMark m).length = g.length ∧
    (g.applyMark m).geo = g.geo := by
  unfold Segment.applyMark; split
  · exact ⟨rfl, rfl, rfl⟩
  · split_ifs <;> exact ⟨rfl, rfl, rfl⟩

theorem applyMark_valid {g : Segment} (h : g.Valid) (m : Mark) : (g.applyMark m).Valid := by
  obtain ⟨h1, h2, h3, h4, h5⟩ := h
  unfold Segment.applyMark; split
  · exact ⟨h1, h2, h3, h4, h5⟩
  · rename_i b hb
    rw [hb] at h5
    split_ifs
    exacts [⟨h1, h2, h3, h4, h5⟩, ⟨h1, h2, h3, h4, by rw [hb]; exact h5⟩]

/-! ### Reports of the route -/

section

variable {p : Scope} {s₀ s t : State}

/-- A change of the route's or the Position Fix Unit's blocks, reported. -/
theorem Told.reroute (h : Told p s₀ s) (hb : Base p s₀ t) (hac : t.ac = s.ac := by rfl)
    (hv : t.sv.view = s.sv.view := by rfl) (hl : t.sv.latch = s.sv.latch := by rfl) : Told p s₀ (reportRoute t) := by
  have rest {u : State} (hc : Core p s₀ u) (hua : u.ac = t.ac) (huv : u.sv.view = t.sv.view) (hul : u.sv.latch = t.sv.latch) :
      Told p s₀ u := by
    refine { hc with channels := ?_, absent := ?_, bogie := ?_, seen := ?_ }
    · rw [hua, hac]; exact h.channels
    · rw [hua, hac]; exact h.absent
    · unfold BogieInv; rw [hua, hac, hul, hl]; exact h.bogie
    · unfold Seen; rw [huv, hv, hua, hac]; exact h.seen
  unfold reportRoute; split_ifs with hr
  · exact rest { hb with route := hr } rfl rfl rfl
  · obtain ⟨hview, -, -, hlatch, -⟩ := derive_sv (t.setSv { t.sv with routeOpen := t.rw.isOpen, conf := t.pfu.conf })
    refine rest (Base.derives { hb with tracks := hb.tracks, derived := nofun } ⟨rfl, rfl⟩)
      (derive_onlySv _).2.2.2.2.2.2.2.1 hview hlatch

theorem confidenceFor_ne (t : ConfigTable) (u : Nat) : confidenceFor t u ≠ .unplaced := by
  unfold confidenceFor; split_ifs <;> nofun

/-! ### The Route Window's operations -/

theorem closeWindow_told (h : Told p s₀ s) : Told p s₀ (closeWindow s) := by
  have closed {u : State} (hu : Told p s₀ u) (hr : u.odo = s.odo := by rfl) : Told p s₀ (reportRoute
      (((u.setRw Rw.reset).setPath (voidMarks u.path)).setPfu
        { u.pfu with conf := .unplaced, miss := 0, missTold := false, marks := [] })) :=
    hu.reroute { hu.toBase with
      window := windowInv_of_closed rfl rfl
      pfu := ⟨⟨nofun, nofun⟩, hu.pfu.uncertainty, Nat.zero_le _⟩ }
  unfold closeWindow unplace; dsimp only; split_ifs
  · exact closed (h.inactive .none (c := .beaconMissed) (by decide))
  · exact closed h

theorem negateCarried_inRange {ss : Quad SsRec} (h : ∀ k, (ss.get k).InRange) (k : Chan) :
    ((negateCarried ss).get k).InRange ∧ ((negateCarried ss).get k).source = (ss.get k).source := by
  unfold negateCarried; rw [Quad.get_build]
  exact ⟨⟨by rw [Int.natAbs_neg]; exact (h k).carried, (h k).carry⟩, rfl⟩

/-- A change of the position before any report of the shortfall that bears it. -/
theorem TracksShortfall.moved {exact : Prop} (h : TracksShortfall exact s₀ s)
    (hx : exact → s.sv.shortfall = s₀.sv.shortfall) (hsv : t.sv = s.sv) (hn : t.odo.frameNo = s.odo.frameNo) :
    TracksShortfall exact s₀ t := by
  by_cases he : exact
  · exact .start exact (by rw [hsv]; exact hx he)
  · exact h.of_others (by rw [hsv]) hn (fun h => absurd h he) (fun f hf _ _ => by rwa [hsv]) (fun f hf _ _ => by rwa [← hsv])
      fun _ hl => by rwa [← hsv]

theorem openRouteInRange_iff {f : OpenRouteFields} : openRouteInRange f = true ↔ (leadOf f.lead).isSome = true ∧
    f.r0 ≤ 999999999 ∧ f.firstIndex ≤ 65535 ∧ f.rRef ≤ 999999999 ∧ f.u0 ≤ 65535 := by
  simp only [openRouteInRange, Bool.and_eq_true, decide_eq_true_eq, and_assoc]; rfl

/-- An empty window that is open (R6, R17). -/
theorem windowInv_opened {s : State} {lead : VehicleEnd} {r0 first : Nat} (hr : r0 ≤ 999999999) (hn : first ≤ 65535)
    (hrw : s.rw = { isOpen := true, lead := lead, rear := r0, front := r0, next := first, segs := [], horizonLow := false })
    (hc : s.pfu.conf ≠ .unplaced) : WindowInv s := by
  unfold WindowInv
  rw [hrw]
  refine ⟨Nat.zero_le _, nofun, rfl, ?_, ?_, trivial, nofun, fun h => absurd h hc, nofun⟩
  · exact hr.trans (by decide)
  · exact Nat.lt_succ_of_le hn

/-- The state that an accepted OPEN_ROUTE reports: the window empty and open, the position, the uncertainty and the miss count
set, what is on its way void, and POSITION_CONFLICT and a standing BEACON_MISSED inactive (R17, R18, R37, R69, R87). -/
def reopened (f : OpenRouteFields) (lead : VehicleEnd) (s : State) : State :=
  { s with
    rw := { isOpen := true, lead := lead, rear := f.r0, front := f.r0, next := f.firstIndex, segs := [], horizonLow := false }
    odo := { s.odo with r := f.rRef * 1000 }
    pfu := { s.pfu with conf := confidenceFor s.ct.table f.u0, u := f.u0 * 1000, miss := 0, missTold := false, marks := [] }
    path := voidCorrections (voidMarks s.path)
    ss := if s.rw.lead = lead then s.ss else negateCarried s.ss
    sv := if Config.missLimit ≤ s.pfu.miss then (s.sv.takeInactive .positionConflict .none).takeInactive .beaconMissed .none
      else s.sv.takeInactive .positionConflict .none }

theorem openRoute_eq (f : OpenRouteFields) (lead : VehicleEnd) (s : State) :
    openRoute f lead s = reportRoute (reopened f lead s) := by
  unfold openRoute reopened
  by_cases hl : s.rw.lead = lead <;> by_cases hm : Config.missLimit ≤ s.pfu.miss <;>
    simp only [hl, hm, if_true, if_false] <;> rfl

/-- An accepted OPEN_ROUTE; the position it sets is the one that a report bears, if it makes one. -/
theorem openRoute_told (h : Told p s₀ s) {f : OpenRouteFields} (hf : openRouteInRange f = true) (lead : VehicleEnd)
    (hx : p.exact → s.sv.shortfall = s₀.sv.shortfall) : Told p s₀ (openRoute f lead s) := by
  obtain ⟨-, hr0, hfirst, hrref, hu0⟩ := openRouteInRange_iff.1 hf
  have records (k : Chan) : ((reopened f lead s).ss.get k).InRange ∧
      ((reopened f lead s).ss.get k).source = (s.ss.get k).source := by
    unfold reopened; dsimp only; split_ifs
    exacts [⟨h.records k, rfl⟩, negateCarried_inRange h.records k]
  have opened {v : Sv} (hu : Told p s₀ (s.setSv v)) (hux : v.shortfall = s.sv.shortfall)
      (hsv : (reopened f lead s).sv = v) : Told p s₀ (reportRoute (reopened f lead s)) := by
    have unmoved : TracksShortfall p.exact s₀ (reopened f lead s) :=
      hu.tracks.moved (fun he => hux.trans (hx he)) hsv rfl
    have position : (reopened f lead s).odo.r = f.rRef * 1000 := rfl
    have uncertainty : (reopened f lead s).pfu.u = f.u0 * 1000 := rfl
    refine hu.reroute { hu.toBase with
      window := windowInv_opened hr0 hfirst rfl (confidenceFor_ne _ _)
      odo := fun hp => { h.odo hp with position := by omega }
      pfu := ⟨⟨nofun, nofun⟩, by omega, Nat.zero_le _⟩
      records := fun k => (records k).1
      tracks := unmoved
      faults := by unfold FaultInv; rw [hsv]; exact hu.faults
      latch := by rw [hsv]; exact hu.latch
      shrinks := by rw [hsv]; exact hu.shrinks
      sources := fun k hk => by rw [hsv, (records k).2]; exact hu.sources k hk
      derived := by unfold Derived; rw [hsv]; exact hu.derived } rfl (by rw [hsv]; rfl) (by rw [hsv]; rfl)
  have conflict := h.inactive .none (c := .positionConflict) (by decide)
  rw [openRoute_eq]
  by_cases hm : Config.missLimit ≤ s.pfu.miss
  · exact opened (conflict.inactive .none (c := .beaconMissed) (by decide)) rfl (if_pos hm)
  · exact opened conflict rfl (if_neg hm)

theorem windowTakes_told (h : Told p s₀ s) (sample : Sample) : Told p s₀ (windowTakes sample s) := by
  unfold windowTakes; dsimp only
  have hands {x : HandOver} (hx : ∀ k, (x.entries.get k).Valid) :
      ∀ y ∈ s.path.atSs ++ [x], ∀ k, (y.entries.get k).Valid := fun y hy => by
    rcases List.mem_append.1 hy with hy | hy
    exacts [h.hands y hy, List.mem_singleton.1 hy ▸ hx]
  split_ifs with ho
  · obtain ⟨hw, hvalid⟩ := windowInv_retired h.window ho sample
      (horizonTest s.ct.table (retired s sample) ((fittedChannels s).map (lookPoint s sample)))
    obtain ⟨d, segs, -, hret⟩ := retired_eq s sample
    refine { h with window := hw, route := ?_, hands := hands fun k => ?_ }
    · rw [Quad.get_build]
      unfold handEntry; split_ifs
      · rintro pts hpts
        obtain rfl := Option.some.inj hpts
        exact ⟨fun c hc => lookup_valid hvalid hc, fun c hc => lookup_valid hvalid hc⟩
      · exact nofun
    · rw [hret]; exact h.route
  · obtain ⟨h1, h2, h3, h4, h5, h6, h7, h8⟩ := h.window
    have hrw : s.rw = Rw.reset := h7 (Bool.eq_false_iff.2 ho)
    refine { h with window := ⟨h1, h2, h3, h4, h5, h6, fun _ => ?_, h8⟩, hands := hands fun k => ?_ }
    · rw [State.setPath_rw, State.setRw_rw, hrw]; rfl
    · rw [Quad.get_build]; split_ifs <;> exact nofun

theorem sampleAtRw_told (h : Told p s₀ s) : Told p s₀ (sampleAtRw s) := by
  unfold sampleAtRw; split
  · exact h
  · refine windowTakes_told ?_ _
    exact { h with hands := h.hands }

theorem windowInv_marked {s : State} (h : WindowInv s) (m : Mark) :
    WindowInv (s.setRw { s.rw with segs := s.rw.segs.map (Segment.applyMark m) }) := by
  obtain ⟨h1, h2, h3, h4, h5, h6, h7, h8⟩ := h
  refine ⟨by rw [State.setRw_rw, List.length_map]; exact h1, fun g hg => ?_, ?_, h4, h5,
    indexedUpTo_map (fun g => (applyMark_keeps m g).1) h6, fun hc => ?_, h8⟩
  · obtain ⟨g', hg', rfl⟩ := List.mem_map.1 hg
    exact applyMark_valid (h2 g' hg') m
  · show s.rw.front = s.rw.rear + totalLength (s.rw.segs.map (Segment.applyMark m))
    rw [totalLength_map fun g => (applyMark_keeps m g).2.1]; exact h3
  · rw [State.setRw_rw, h7 hc]; rfl

theorem beaconMark_told (h : Told p s₀ s) : Told p s₀ (beaconMark s) := by
  unfold beaconMark; split
  · exact h
  · rename_i msg rest _
    dsimp only; split_ifs
    · exact { h with hands := h.hands }
    · exact { h with
        window := windowInv_marked (s := (s.setPath { s.path with marks := rest }).setPfu
          { s.pfu with marks := s.pfu.marks.erase msg.mark }) h.window msg.mark
        pfu := { h.pfu with } }

theorem appendSegment_told (h : Told p s₀ s) {f : SegmentFields} {g : Segment} (hn : f.index = s.rw.next)
    (hl : s.rw.segs.length < 48) (ho : s.rw.isOpen = true) (hg : segmentOf f s.rw.front = some g) :
    Told p s₀ (s.setRw (s.rw.append g)) := by
  obtain ⟨h1, h2, h3, h4, h5, h6, h7, h8⟩ := h.window
  obtain ⟨hv, hi, hmax⟩ := segmentOf_some hg (hn ▸ h5)
  have hnext : g.index = s.rw.next := hi.trans hn
  refine { h with window := ⟨?_, fun g' hg' => ?_, ?_, hmax, ?_, ?_, fun hc => ?_, h8⟩ }
  · rw [State.setRw_rw, Rw.append, List.length_append]; exact hl
  · rcases List.mem_append.1 hg' with hg' | hg'
    exacts [h2 g' hg', List.mem_singleton.1 hg' ▸ hv]
  · rw [State.setRw_rw, Rw.append, totalLength_append]
    simp only [totalLength]; omega
  · exact Nat.mod_lt _ (by decide)
  · have := indexedUpTo_append h6 hl h5 hnext
    rw [State.setRw_rw, Rw.append, hnext]; exact this
  · exact absurd (ho.symm.trans hc) nofun

end

end Sys2Proof.Machine

/-! # What the Odometer, the Position Fix Unit and the Steering Schedule keep -/

namespace Sys2Proof.Machine

section

variable {p : Scope} {s₀ s t u : State}

/-! ### The Odometer -/

/-- A change of the Odometer that leaves its position and frame number. -/
theorem Told.setOdo (h : Told p s₀ s) {v : Odo} (hv : p.strict → v.InRange) (hn : v.frameNo = s.odo.frameNo := by rfl)
    (hr : v.r = s.odo.r := by rfl) : Told p s₀ (s.setOdo v) :=
  { h with
    odo := hv
    tracks := h.tracks.of_others rfl hn (fun _ => hr) (fun _ hf _ _ => hf) (fun _ hf _ _ => hf) fun _ hl => hl }

theorem tachoCount_told (h : Told p s₀ s) (x : Tacho) (e : TachoEdge) : Told p s₀ (tachoCount x e s) :=
  .ite h (h.setOdo fun hp => { h.odo hp with })

theorem tachoFailed_told (h : Told p s₀ s) (hq : ¬p.requests) (x : Tacho) : Told p s₀ (tachoFailed x s) := by
  refine .ite (Told.raise (h.setOdo fun hp => ?_) (by decide) rfl hq) h
  have ho := h.odo hp
  cases x
  exacts [{ ho with failure1 := Nat.zero_lt_succ 24 }, { ho with failure2 := Nat.zero_lt_succ 24 }]

theorem tachoDisagree_told (h : Told p s₀ s) (hq : ¬p.requests) : Told p s₀ (tachoDisagree s) := by
  unfold tachoDisagree; split_ifs with hd
  · refine Told.raise (h.setOdo fun hp => ?_) (by decide) rfl hq
    exact { h.odo hp with told := ⟨fun _ => Nat.le_antisymm (h.odo hp).disagree hd.1, fun _ => rfl⟩ }
  · exact h

theorem tachoAgreementReached_told (h : Told p s₀ s) : Told p s₀ (tachoAgreementReached s) :=
  .ite (h.inactive .none (by decide)) h

theorem streakReports_told (h : Told p s₀ s) (hq : ¬p.requests) (before : Nat) : Told p s₀ (streakReports before s) :=
  .ite (tachoAgreementReached_told (tachoDisagree_told h hq)) (tachoDisagree_told h hq)

theorem standstillReached_told (h : Told p s₀ s) : Told p s₀ (standstillReached s) :=
  .ite (h.setOdo fun hp => { h.odo hp with }) h

theorem decideStandstill_told (h : Told p s₀ s) (hl : ¬p.strict) (i : FrameInput) : Told p s₀ (decideStandstill i s) := by
  have set {u : State} (hu : Told p s₀ u) {v : Odo} (hn : v.frameNo = u.odo.frameNo := by rfl)
      (hr : v.r = u.odo.r := by rfl) : Told p s₀ (u.setOdo v) := hu.setOdo (fun hp => absurd hp hl) hn hr
  refine .ite (.ite (.ite (set (set h)) (set h)) (set h)) ?_
  split
  exacts [.ite (set h) (set h), set h]

/-! The Odometer's items through the closing of a frame. -/

theorem tachoFailed_odo (x : Tacho) (s : State) : (tachoFailed x s).odo =
    if s.odo.tacho.get x = .working ∧ 25 ≤ s.odo.failure.get x then
      { s.odo with tacho := s.odo.tacho.set x .failed, failure := s.odo.failure.set x 0 }
    else s.odo := by
  unfold tachoFailed Config.failureLimit; split_ifs <;> rfl

theorem streakReports_odo (before : Nat) (s : State) : (streakReports before s).odo =
    if 50 ≤ s.odo.disagree ∧ s.odo.disagreeTold = false then { s.odo with disagreeTold := true } else s.odo := by
  unfold streakReports tachoAgreementReached tachoDisagree Config.streakLimit
  split_ifs <;> rfl

/-- The Odometer's items after a frame has been counted and before its tachos are watched: a failure streak may stand at its
limit, and a disagreement may stand untold. -/
structure Odo.Counted (o : Odo) : Prop where
  told : o.disagreeTold = true → o.disagree = 50
  position : o.r ≤ 999999999999
  frame : o.frameNo < 65536
  disagree : o.disagree ≤ 50
  agree : o.agree ≤ 50
  failure : ∀ x, o.failure.get x < 25 ∨ o.failure.get x = 25 ∧ o.tacho.get x = .working
  quiet : o.quiet ≤ 2000

/-- A tacho watched: its streak is below the limit, and the other's is as it was. -/
theorem Odo.Counted.failed (h : s.odo.Counted) (x : Tacho) : (tachoFailed x s).odo.Counted ∧
    (tachoFailed x s).odo.failure.get x < 25 ∧
    ∀ y, y ≠ x → (tachoFailed x s).odo.failure.get y = s.odo.failure.get y := by
  rw [tachoFailed_odo]
  have failure := h.failure
  split_ifs with hf
  · refine ⟨{ h with failure := fun y => ?_ }, by simp, fun y hy => Duo.get_set_ne _ _ hy⟩
    by_cases hy : y = x
    · subst hy; rw [Duo.get_set_self]; exact .inl (by omega)
    · dsimp only; rw [Duo.get_set_ne _ _ hy, Duo.get_set_ne _ _ hy]; exact failure y
  · refine ⟨h, ?_, fun _ _ => rfl⟩
    rcases failure x with hx | ⟨hx, hw⟩
    exacts [hx, absurd ⟨hw, le_of_eq hx.symm⟩ hf]

/-- The tachos watched and the streaks reported, the Odometer's items stand in their ranges. -/
theorem Odo.Counted.watched (h : s.odo.Counted) (before : Nat) :
    (streakReports before (tachoFailed .t2 (tachoFailed .t1 s))).odo.InRange := by
  obtain ⟨h1, hf1, -⟩ := h.failed .t1
  obtain ⟨h2, hf2, hkeep⟩ := h1.failed .t2
  have hf1 : (tachoFailed .t2 (tachoFailed .t1 s)).odo.failure.get .t1 < 25 := by rw [hkeep .t1 nofun]; exact hf1
  rw [streakReports_odo]
  generalize (tachoFailed .t2 (tachoFailed .t1 s)).odo = o at *
  have hle := h2.disagree
  split_ifs with hd
  · exact ⟨⟨fun _ => by dsimp only; omega, fun _ => rfl⟩, h2.position, h2.frame, hle, h2.agree, hf1, hf2, h2.quiet⟩
  · refine ⟨⟨h2.told, fun he => ?_⟩, h2.position, h2.frame, hle, h2.agree, hf1, hf2, h2.quiet⟩
    by_contra ht
    exact hd ⟨le_of_eq he.symm, by simpa using ht⟩

theorem decideStandstill_inRange (h : s.odo.InRange) (i : FrameInput) : (decideStandstill i s).odo.InRange := by
  have moving : ({ s.odo with quiet := 0, standstill := .moving } : Odo).InRange := { h with quiet := Nat.zero_le _ }
  have standing : ({ s.odo with standstill := .standstill } : Odo).InRange := { h with }
  have quiet : ({ s.odo with quiet := min (s.odo.quiet + i.interval) Config.quietMax } : Odo).InRange :=
    { h with quiet := Nat.min_le_right _ _ }
  unfold decideStandstill; dsimp only
  (repeat' split)
  exacts [{ quiet with }, quiet, moving, standing, moving, moving]

theorem disagreeAfter_le (c : MotionCase) {n : Nat} (h : n ≤ 50) : disagreeAfter c n ≤ 50 := by
  cases c <;> simp only [disagreeAfter, Config.streakLimit] <;> omega

theorem agreeAfter_le (c : MotionCase) {n : Nat} (h : n ≤ 50) : agreeAfter c n ≤ 50 := by
  cases c <;> simp only [agreeAfter, Config.streakLimit] <;> omega

theorem failureStreak_or (i : FrameInput) (x : Tacho) {n : Nat} (h : n < 25) :
    i.failureStreak x n < 25 ∨ i.failureStreak x n = 25 ∧ i.tacho.get x = .working := by
  unfold FrameInput.failureStreak
  split
  · exact .inl h
  · rename_i hw
    split_ifs
    · rcases Nat.lt_or_ge (n + 1) 25 with hn | hn
      exacts [.inl hn, .inr ⟨by omega, hw⟩]
    · exact .inl (by omega)

theorem holdTo_le (hi : Nat) (x : Int) : holdTo hi x ≤ hi := Nat.min_le_right _ _

theorem withdrawOffer_odo (s : State) : (withdrawOffer s).odo = s.odo := by
  unfold withdrawOffer; split <;> rfl

theorem authority_held (h : AuthorityInv s) {m : Master} (hm : m ≠ .brake) (hrun : s.ct.mode = .run) :
    AuthorityInv (s.setAa { s.aa with auth := .held m, offer := none }) :=
  ⟨⟨hm, rfl⟩, fun hn => absurd hrun hn, h.2.2⟩

theorem authority_vacant (h : AuthorityInv s) : AuthorityInv (s.setAa { s.aa with auth := .vacant, offer := none }) :=
  ⟨rfl, fun _ => rfl, h.2.2⟩

/-- An offer stands only in RUN, between two masters that are not the brake controller. -/
theorem authority_offered (h : AuthorityInv s) {m n : Master} (ha : s.aa.auth = .offered m n) :
    m ≠ .brake ∧ n ≠ .brake ∧ s.ct.mode = .run := by
  obtain ⟨hauth, hmode, -⟩ := h
  rw [ha] at hauth hmode
  exact ⟨hauth.1, hauth.2.1, by_contra fun hn => absurd (hmode hn) nofun⟩

theorem Told.setAa (h : Told p s₀ s) {v : Aa} (hv : AuthorityInv (s.setAa v)) : Told p s₀ (s.setAa v) :=
  { h with authority := hv }

theorem withdrawOffer_told (h : Told p s₀ s) : Told p s₀ (withdrawOffer s) := by
  unfold withdrawOffer; split
  · rename_i m n ha
    obtain ⟨hm, -, hrun⟩ := authority_offered h.authority ha
    exact h.setAa (authority_held h.authority hm hrun)
  · exact h

/-- The scope within a frame's closing. -/
def Scope.lax (p : Scope) : Scope := { p with strict := False }

/-- The closing of a frame, whose number and position every report of it bears. -/
theorem closeFrame_told (h : Told p s₀ s) (hp : p.strict) (hq : ¬p.requests)
    (hx : s.sv.shortfall = s₀.sv.shortfall) (ft : FrameTimer) : Told p s₀ (closeFrame ft s) := by
  have ho := h.odo hp
  have lax : Told p.lax s₀ s := { h with odo := nofun }
  have closed (o : Odo) (hc : o.Counted) (i : FrameInput) (sample : State → Sample) :
      let s3 := streakReports s.odo.agree (tachoFailed .t2 (tachoFailed .t1 (s.setOdo o)))
      let s4 := decideStandstill i s3
      let s5 := if s.odo.standstill = .standstill ∧ s4.odo.standstill = .moving then withdrawOffer s4 else s4
      Told p s₀ (s5.setPath { s5.path with atPfu := s5.path.atPfu ++ [sample s5] }) := by
    intro s3 s4 s5
    have counted : Told p.lax s₀ (s.setOdo o) := { lax with odo := nofun, tracks := .start _ hx }
    have decided : Told p.lax s₀ s4 := decideStandstill_told (streakReports_told
      (tachoFailed_told (tachoFailed_told counted hq _) hq _) hq _) nofun i
    have range : s4.odo.InRange := decideStandstill_inRange (Odo.Counted.watched (s := s.setOdo o) hc _) i
    have told : Told p.lax s₀ s5 := .ite (withdrawOffer_told decided) decided
    have hodo : s5.odo = s4.odo := by
      show (if _ then _ else _ : State).odo = _
      split_ifs
      exacts [withdrawOffer_odo s4, rfl]
    exact { told with odo := fun _ => hodo ▸ range, hands := told.hands }
  unfold closeFrame; extract_lets ref i d _ s1
  refine closed s1.odo ⟨fun ht => ?_, holdTo_le _ _, Nat.mod_lt _ (by decide), disagreeAfter_le _ ho.disagree,
    agreeAfter_le _ ho.agree, fun x => ?_, ho.quiet⟩ i fun s5 => ⟨s5.odo.r, d, i.case.quality, s5.odo.standstill, _⟩
  · have hd := disagreeAfter_le i.case ho.disagree
    have stands := (Bool.and_eq_true_iff.1 ht).2
    exact Nat.le_antisymm hd (of_decide_eq_true stands)
  · cases x
    exacts [failureStreak_or i .t1 ho.failure1, failureStreak_or i .t2 ho.failure2]

theorem frameTimerExpiry_told (h : Told p s₀ s) (hp : p.strict) (hq : ¬p.requests)
    (hx : s.sv.shortfall = s₀.sv.shortfall) : Told p s₀ (frameTimerExpiry s) := by
  unfold frameTimerExpiry; split
  exacts [h, closeFrame_told h hp hq hx _]

theorem positionCorrection_told (h : Told p s₀ s) (hx : p.exact → s.sv.shortfall = s₀.sv.shortfall) :
    Told p s₀ (positionCorrection s) := by
  unfold positionCorrection; split
  · exact h
  · dsimp only; split_ifs
    · exact { h with hands := h.hands }
    · exact { h with
        odo := fun hp => { h.odo hp with position := holdTo_le _ _ }
        tracks := h.tracks.moved hx rfl rfl, hands := h.hands }

theorem clearTachos_told (h : Told p s₀ s) : Told p s₀ (clearTachos s) := by
  refine Told.inactive (Told.inactive (h.setOdo fun hp => ?_) _ (by decide)) _ (by decide)
  have ho := h.odo hp
  have cleared (x : Tacho) : (if s.odo.tacho.get x = .failed then 0 else s.odo.failure.get x) < 25 := by
    split_ifs
    · decide
    · cases x
      exacts [ho.failure1, ho.failure2]
  exact { ho with
    told := ⟨nofun, nofun⟩, disagree := Nat.zero_le _, agree := Nat.zero_le _, failure1 := cleared .t1
    failure2 := cleared .t2 }

/-! ### The Position Fix Unit -/

/-- A change of the confidence from PLACED or DRIFTED to one of the two keeps the window's invariant (R72). -/
theorem windowInv_conf (h : WindowInv s) (hc : s.pfu.conf ≠ .unplaced) (hrw : t.rw = s.rw) (ht : t.pfu.conf ≠ .unplaced) :
    WindowInv t := by
  obtain ⟨h1, h2, h3, h4, h5, h6, h7, h8⟩ := h
  unfold WindowInv
  rw [hrw]
  exact ⟨h1, h2, h3, h4, h5, h6, h7, fun h => absurd h ht, fun h => absurd (h8.2 h) hc⟩

theorem Told.setPfu (h : Told p s₀ s) {v : Pfu} (hv : v.InRange) (hc : v.conf = s.pfu.conf := by rfl) :
    Told p s₀ (s.setPfu v) :=
  { h with
    pfu := hv
    window := by
      have := h.window
      unfold WindowInv at this ⊢
      rw [State.setPfu_pfu, hc]; exact this
    route := ⟨h.route.1, h.route.2.trans hc.symm⟩ }

theorem beaconMissed_told (h : Told p s₀ s) (hq : ¬p.requests) : Told p s₀ (beaconMissed s) := by
  unfold beaconMissed; split_ifs with hm
  · refine Told.raise ?_ (by decide) rfl hq
    exact h.setPfu { h.pfu with told := ⟨fun _ => hm.1, fun _ => rfl⟩ }
  · exact h

theorem sendMark_told (h : Told p s₀ s) (m : Mark) : Told p s₀ (sendMark m s) :=
  { h with pfu := { h.pfu with }, hands := h.hands }

theorem growBy_le (u inc : Nat) : growBy u inc ≤ 65535000 := Nat.min_le_right _ _

/-- A miss count that BEACON_MISSED may not have reported yet, reported where it has to be (R78). -/
theorem beaconMissed_setPfu_told (h : Told p s₀ s) (hq : ¬p.requests) {v : Pfu} (hu : v.u ≤ 65535000)
    (hm : v.miss ≤ 255) (hc : v.conf = s.pfu.conf) (ht : v.missTold = true → 2 ≤ v.miss) :
    Told p s₀ (beaconMissed (s.setPfu v)) := by
  unfold beaconMissed; split_ifs with hb
  · refine Told.raise ?_ (by decide) rfl hq
    exact h.setPfu (v := { v with missTold := true }) ⟨⟨fun _ => hb.1, fun _ => rfl⟩, hu, hm⟩ hc
  · refine h.setPfu ⟨⟨ht, fun hl => ?_⟩, hu, hm⟩ hc
    by_contra hf
    exact hb ⟨hl, by simpa using hf⟩

theorem missBeacon_told (h : Told p s₀ s) (hq : ¬p.requests) (b : BeaconAt) : Told p s₀ (missBeacon s b) := by
  refine beaconMissed_setPfu_told (sendMark_told h ⟨b.index, .missed⟩) hq (growBy_le _ _) (Nat.min_le_right _ _) rfl
    fun ht => ?_
  exact Nat.le_min.2 ⟨Nat.le_succ_of_le (h.pfu.told.1 ht), by decide⟩

theorem foldl_missBeacon_told (h : Told p s₀ s) (hq : ¬p.requests) (l : List BeaconAt) :
    Told p s₀ (l.foldl missBeacon s) := by
  induction l generalizing s with
  | nil => exact h
  | cons b l ih => exact ih (missBeacon_told h hq b)

theorem driftTest_told (h : Told p s₀ s) : Told p s₀ (driftTest s) := by
  unfold driftTest; split_ifs with hd
  · exact h.reroute { h.toBase with
      window := windowInv_conf h.window (by rw [hd.1]; nofun) rfl nofun, pfu := { h.pfu with } }
  · exact h

theorem sampleAtPfu_told (h : Told p s₀ s) (hq : ¬p.requests) : Told p s₀ (sampleAtPfu s) := by
  have passed {u : State} (hu : Told p s₀ u) (l : List Sample) : Told p s₀ (u.setPath { u.path with atRw := l }) :=
    { hu with hands := hu.hands }
  unfold sampleAtPfu; split
  · exact h
  · rename_i rest _
    have taken : Told p s₀ (s.setPath { s.path with atPfu := rest }) := { h with hands := h.hands }
    refine passed (.ite taken ?_) _
    refine driftTest_told (foldl_missBeacon_told ?_ hq _)
    exact taken.setPfu { taken.pfu with uncertainty := growBy_le _ _ }

/-- A change of blocks other than the channels, the Arbiter and the line, over reports to the fault list. -/
theorem Base.change (h : Base p s₀ u) (hw : WindowInv t) (ho : p.strict → t.odo.InRange) (hf : t.pfu.InRange)
    (hss : t.ss = u.ss := by rfl) (hp : t.path.atSs = u.path.atSs := by rfl) (hsv : t.sv = u.sv := by rfl)
    (ht : TracksShortfall p.exact s₀ t) (haa : t.aa = u.aa := by rfl) (hct : t.ct = u.ct := by rfl)
    (hpw : t.power = u.power := by rfl) (hli : t.li = u.li := by rfl) : Base p s₀ t := by
  refine ⟨hw, ?_, ?_, ?_, ho, hf, ?_, ?_, ?_, ?_, ?_, ht, ?_, ?_, ?_, ?_⟩
  · unfold FaultInv; rw [hsv]; exact h.faults
  · unfold AuthorityInv; rw [haa, hct, hpw]; exact h.authority
  · unfold ConfigInv; rw [hct]; exact h.config
  · rw [hss]; exact h.records
  · rw [hp]; exact h.hands
  · rw [hli]; exact h.ones
  · rw [hli]; exact h.queue
  · rw [hsv]; exact h.latch
  · rw [hsv]; exact h.shrinks
  · rw [hct]; exact h.table
  · unfold SourcesSeen; rw [hsv, hss]; exact h.sources
  · unfold Derived; rw [hsv, hct]; exact h.derived

/-- A position placed anew, with a standing BEACON_MISSED and POSITION_CONFLICT ended (R80). -/
theorem placed_told (h : Told p s₀ s) (hc : s.pfu.conf ≠ .unplaced) {path : Path} (hp : path.atSs = s.path.atSs) {f : Pfu}
    (hf : f.InRange) (hfc : f.conf ≠ .unplaced) (missed : Prop) [Decidable missed] :
    Told p s₀ (reportRoute (reportInactive .positionConflict .none
      (if missed then reportInactive .beaconMissed .none ((s.setPath path).setPfu f) else (s.setPath path).setPfu f))) := by
  have moved : Base p s₀ ((s.setPath path).setPfu f) :=
    h.toBase.change (windowInv_conf h.window hc rfl hfc) h.odo hf (ht := h.tracks) (hp := hp)
  split_ifs
  · exact h.reroute ((moved.inactive .none (by decide)).inactive .none (by decide))
  · exact h.reroute (moved.inactive .none (by decide))

theorem matchBeacon_told (h : Told p s₀ s) (hc : s.pfu.conf ≠ .unplaced) (reader : Int) (b : BeaconAt) :
    Told p s₀ (matchBeacon reader b s) := by
  have hfix := uFix_le h.config.1
  have sent := sendMark_told h ⟨b.index, .matched⟩
  unfold matchBeacon; dsimp only
  refine placed_told sent hc ?_ ?_ ?_ (Config.missLimit ≤ s.pfu.miss)
  · rfl
  · exact ⟨⟨nofun, nofun⟩, (Nat.mul_le_mul_right 1000 hfix).trans (by decide), Nat.zero_le _⟩
  · exact nofun

theorem conflict_told (h : Told p s₀ s) (hq : ¬p.requests) (hc : s.pfu.conf ≠ .unplaced) : Told p s₀ (conflict s) := by
  refine Told.raise ?_ (by decide) rfl hq
  exact h.reroute { h.toBase with window := windowInv_conf h.window hc rfl nofun, pfu := { h.pfu with } }

theorem beaconTelegram_told (h : Told p s₀ s) (hq : ¬p.requests) (id : Nat) (good : Bool) :
    Told p s₀ (beaconTelegram id good s) := by
  unfold beaconTelegram
  split_ifs with hc
  · exact h
  · have hc : s.pfu.conf ≠ .unplaced := fun he => hc (by simp [he])
    dsimp only; split
    · exact matchBeacon_told h hc _ _
    · exact .ite h (.ite h (conflict_told h hq hc))

/-- An accepted PLACE; the position it sets is the one that a report bears, if it makes one. -/
theorem place_told (h : Told p s₀ s) (ho : s.rw.isOpen = true) {rRef u : Nat} (hr : rRef ≤ 999999999) (hu : u ≤ 65535)
    (hx : p.exact → s.sv.shortfall = s₀.sv.shortfall) : Told p s₀ (place rRef u s) := by
  have hc : s.pfu.conf ≠ .unplaced := fun he => by
    obtain ⟨-, -, -, -, -, -, -, hconf⟩ := h.window
    exact absurd (ho.symm.trans (hconf.1 he)) nofun
  have ended := h.inactive .none (c := .positionConflict) (by decide)
  unfold place; dsimp only
  refine ended.reroute (ended.toBase.change (windowInv_conf h.window hc rfl (confidenceFor_ne _ _)) (fun hp => ?_) ?_
    (ht := ended.tracks.moved hx rfl rfl))
  · exact { h.odo hp with position := show rRef * 1000 ≤ _ by omega }
  · exact { h.pfu with uncertainty := show u * 1000 ≤ _ by omega }

end

end Sys2Proof.Machine

/-! # What the Steering Schedule and the Arbiter keep -/

namespace Sys2Proof.Machine

/-! ### Curvature and target -/

/-- A truncated share of a number lies between 0 and it (R2). -/
theorem trunc_share {a d : Int} {len : Nat} (hd : 0 ≤ d) (hl : d < len) :
    (0 ≤ a → 0 ≤ trunc (a * d) len ∧ trunc (a * d) len ≤ a) ∧ (a ≤ 0 → a ≤ trunc (a * d) len ∧ trunc (a * d) len ≤ 0) := by
  have hlen : 0 < (len : Int) := hd.trans_lt hl
  have share {b : Int} (hb : 0 ≤ b) : 0 ≤ (b * d).tdiv len ∧ (b * d).tdiv len ≤ b := by
    have hn : 0 ≤ b * d := Int.mul_nonneg hb hd
    rw [Int.tdiv_eq_ediv_of_nonneg hn]
    refine ⟨Int.ediv_nonneg hn hlen.le, ?_⟩
    exact Int.ediv_le_of_le_mul hlen (Int.mul_le_mul_of_nonneg_left hl.le hb)
  refine ⟨share, fun ha => ?_⟩
  obtain ⟨h0, h1⟩ := share (Int.neg_nonneg.2 ha)
  rw [Int.neg_mul, Int.neg_tdiv] at h0 h1
  unfold trunc
  omega

theorem curvature_le {c : Covering} {x : Int} (h : c.Valid x) : (c.curvature x).natAbs ≤ 125000 := by
  obtain ⟨hs, he, hg⟩ := h
  obtain ⟨start, len, geo⟩ := c
  cases geo with
  | straight => exact Nat.zero_le _
  | arc κ => exact hg
  | junction κ cap => exact hg.1
  | spiral κ κ' =>
    obtain ⟨hκ, hκ'⟩ := hg
    dsimp only at hs he
    obtain ⟨up, down⟩ := trunc_share (a := κ' - κ) (d := x - start) (len := len) (by omega) (by omega)
    show (κ + trunc ((κ' - κ) * (x - start)) len).natAbs ≤ 125000
    rcases Int.le_total 0 (κ' - κ) with h | h
    · have := up h; omega
    · have := down h; omega

theorem SsRec.InRange.carryOn {r : SsRec} (h : r.InRange) (limit : Nat) (look : Option Int) :
    (r.carryOn limit look).record.InRange := by
  have hn : min (r.carry + 1) Config.carryMax ≤ 65535 := Nat.min_le_right _ _
  unfold SsRec.carryOn; dsimp only; split_ifs <;> exact ⟨h.carried, hn⟩

theorem SsRec.InRange.choose {r : SsRec} (h : r.InRange) (served isOpen : Bool) (limit : Nat) {e : HandEntry}
    (he : e.Valid) : (r.choose served isOpen limit e.points).record.InRange := by
  unfold SsRec.choose; dsimp only
  split
  · rename_i heq
    exact ⟨curvature_le ((he _ heq).2 _ rfl), Nat.zero_le _⟩
  · rename_i heq
    exact ⟨curvature_le ((he _ heq).1 _ rfl), Nat.zero_le _⟩
  · exact h.carryOn _ _

theorem capLimit_le (lim : Nat) (c : Option Covering) : capLimit lim c ≤ lim := by
  unfold capLimit; split
  exacts [Nat.min_le_left _ _, le_rfl]

theorem angleLimitFor_le (source : Source) (limit : Nat) (pts : Option Points) : angleLimitFor source limit pts ≤ limit := by
  unfold angleLimitFor; split
  exacts [(capLimit_le _ _).trans (capLimit_le _ _), capLimit_le _ _, le_rfl]

/-- The slew leads to a target between the one that stands and the one aimed at (R44). -/
theorem slewToward_le {θ ψ : Int} {n step : Nat} (hθ : θ.natAbs ≤ n) (hψ : ψ.natAbs ≤ n) :
    (slewToward θ ψ step).natAbs ≤ n := by
  unfold slewToward clamp; omega

section

variable {p : Scope} {s₀ s : State} {k : Chan}

theorem newTarget_le (h : Told p s₀ s) (slip : Bool) (source : Source) (κ : Int) (pts : Option Points) :
    (newTarget s k slip source κ pts).natAbs ≤ 800 :=
  slewToward_le (h.inRange k).theta ((clamp_natAbs _ _).trans ((angleLimitFor_le _ _ _).trans (angleLimit_le h.config.1 k)))

/-! ### The schedule's records -/

/-- Channel k's view with the source that its schedule record holds. -/
theorem reportSource_view (k j : Chan) (s : State) : ((reportSource k s).sv.view.get j).state = (s.sv.view.get j).state ∧
    ((reportSource k s).sv.view.get j).mark = (s.sv.view.get j).mark := by
  unfold reportSource; dsimp only; split_ifs
  · exact ⟨rfl, rfl⟩
  · rw [derive_view, State.setSv_sv]
    by_cases hj : j = k
    · subst hj; rw [Quad.get_set_self]; exact ⟨rfl, rfl⟩
    · rw [Quad.get_set_ne _ _ hj]; exact ⟨rfl, rfl⟩

theorem reportSource_latch (k : Chan) (s : State) : (reportSource k s).sv.latch = s.sv.latch := by
  unfold reportSource; dsimp only; split_ifs
  exacts [rfl, (derive_sv _).2.2.2.1]

theorem Core.record (h : Core p s₀ s) {r : SsRec} (hr : r.InRange) :
    Core p s₀ (reportSource k (s.setSs (s.ss.set k r))) := by
  have records (j : Chan) : ((s.ss.set k r).get j).InRange := by
    by_cases hj : j = k
    · subst hj; rw [Quad.get_set_self]; exact hr
    · rw [Quad.get_set_ne _ _ hj]; exact h.records j
  have source (j : Chan) (hj : j ≠ k) : ((s.ss.set k r).get j).source = (s.ss.get j).source := by
    rw [Quad.get_set_ne _ _ hj]
  unfold reportSource; dsimp only; split_ifs with hv
  · refine { h with records := records, sources := fun j hj => ?_ }
    by_cases hjk : j = k
    · subst hjk; rw [hv]
    · rw [State.setSs_ss, source j hjk]; exact h.sources j hj
  · refine Base.derives ({ h.toBase.underived with records := records, sources := fun j hj => ?_, derived := nofun }) h.route
    by_cases hjk : j = k
    · subst hjk; rw [State.setSv_sv, Quad.get_set_self, State.setSv_ss]
    · rw [State.setSv_sv, Quad.get_set_ne _ _ hjk]
      exact (h.sources j hj).trans (source j hjk).symm

/-- A change of a schedule record, reported (R38). -/
theorem Told.record (h : Told p s₀ s) {r : SsRec} (hr : r.InRange) :
    Told p s₀ (reportSource k (s.setSs (s.ss.set k r))) := by
  have hac : (reportSource k (s.setSs (s.ss.set k r))).ac = s.ac := (reportSource_onlySv k _).2.2.2.2.2.2.2.1
  refine { h.toCore.record hr with channels := ?_, absent := ?_, bogie := ?_, seen := fun j => ?_ }
  · rw [hac]; exact h.channels
  · rw [hac]; exact h.absent
  · unfold BogieInv; rw [hac, reportSource_latch]; exact h.bogie
  · rw [hac, (reportSource_view k j _).1, (reportSource_view k j _).2]; exact h.seen j

/-! ### The sample at the schedule -/

theorem scheduleChannel_told (h : Told p s₀ s) (hq : ¬p.requests) (ht : ∀ k, p.timer k = 1000)
    (hused : s.ct.used.lockTime ≤ 1000) (sample : Sample) {e : HandEntry} (he : e.Valid) :
    Told p s₀ (scheduleChannel sample e k s) := by
  unfold scheduleChannel; dsimp only; split_ifs
  · refine deliver_told (h.record ((h.records k).choose _ _ _ he)) hq (ht k) (newTarget_le h _ _ _ _) ?_
    rw [(reportSource_onlySv k _).2.2.2.2.2.2.2.2.1]; exact hused
  · exact h

theorem scheduleChannel_ct (sample : Sample) (e : HandEntry) (k : Chan) (s : State) :
    (scheduleChannel sample e k s).ct = s.ct := by
  unfold scheduleChannel; dsimp only; split_ifs
  · exact ((deliver_onlyAcSv k _ _).2.2.2.2.2.2.2.1).trans (reportSource_onlySv k _).2.2.2.2.2.2.2.2.1
  · rfl

theorem sampleAtSs_told (h : Told p s₀ s) (hq : ¬p.requests) (ht : ∀ k, p.timer k = 1000) : Told p s₀ (sampleAtSs s) := by
  unfold sampleAtSs; split
  · exact h
  · rename_i x rest hs
    have hx : ∀ k, (x.entries.get k).Valid := h.hands x (by rw [hs]; exact List.mem_cons_self)
    have used : Told p s₀ (useLimits (s.setPath { s.path with atSs := rest })) :=
      { h with hands := fun y hy => h.hands y (by rw [hs]; exact List.mem_cons_of_mem x hy) }
    have hlock : (useLimits (s.setPath { s.path with atSs := rest })).ct.used.lockTime ≤ 1000 :=
      (lockTime_le h.config.1).trans (by decide)
    generalize useLimits (s.setPath { s.path with atSs := rest }) = s1 at used hlock
    unfold scheduleTakes
    have t1 := scheduleChannel_told (k := .c1) used hq ht hlock x.sample (hx .c1)
    have t2 := scheduleChannel_told (k := .c2) t1 hq ht (by rwa [scheduleChannel_ct]) x.sample (hx .c2)
    have t3 := scheduleChannel_told (k := .c3) t2 hq ht (by rwa [scheduleChannel_ct, scheduleChannel_ct]) x.sample (hx .c3)
    exact scheduleChannel_told t3 hq ht (by rwa [scheduleChannel_ct, scheduleChannel_ct, scheduleChannel_ct]) x.sample
      (hx .c4)

theorem carryLimitExceeded_told (h : Told p s₀ s) : Told p s₀ (carryLimitExceeded k s) :=
  .ite (h.record { h.records k with }) h

/-! ### The Arbiter -/

/-- Each master of R143 that has a presence record is PRESENT exactly while its timer runs. -/
theorem authority_presence (h : AuthorityInv s) (hon : s.power = .on) {m : Master} {pr : Presence}
    (hp : s.aa.presence m = some pr) : pr.state = .present ↔ pr.timer.isSome = true := by
  have hall := h.2.2 hon
  cases m <;> simp [Aa.presence] at hp <;> subst hp <;> exact hall _ (by simp)

/-- A presence record whose state and timer agree takes its place (R144, R145). -/
theorem authority_setPresence (h : AuthorityInv s) (m : Master) {pr : Presence}
    (hp : pr.state = .present ↔ pr.timer.isSome = true) : AuthorityInv (s.setAa (s.aa.setPresence m pr)) := by
  obtain ⟨hform, hmode, hpres⟩ := h
  cases m with
  | brake => exact ⟨hform, hmode, hpres⟩
  | cabA | cabB | maint =>
    refine ⟨hform, hmode, fun hon => ?_⟩
    have hall := hpres hon
    simp only [Aa.setPresence, State.setAa_aa, List.mem_cons, List.not_mem_nil, or_false, forall_eq_or_imp, forall_eq] at hall ⊢
    tauto

theorem presenceReload_told (h : Told p s₀ s) (m : Master) : Told p s₀ (presenceReload m s) :=
  h.setAa (authority_setPresence h.authority m ⟨fun _ => rfl, fun _ => rfl⟩)

/-- An offer that ends leaves its holder the authority (R154, R156). -/
theorem authority_returned (h : AuthorityInv s) {m n : Master} (ha : s.aa.auth = .offered m n) :
    AuthorityInv (s.setAa { s.aa with auth := .held m, offer := none }) := by
  obtain ⟨hm, -, hrun⟩ := authority_offered h ha
  exact authority_held h hm hrun

theorem silence_told (h : Told p s₀ s) (hq : ¬p.requests) (m : Master) : Told p s₀ (silence m s) := by
  unfold silence; split_ifs
  · exact (h.setAa (authority_vacant h.authority)).raise (by decide) rfl hq
  · split
    · rename_i ha
      split_ifs
      · exact h.setAa (authority_returned h.authority ha)
      · exact h
    · exact h

theorem presenceExpiry_told (h : Told p s₀ s) (hq : ¬p.requests) (m : Master) : Told p s₀ (presenceExpiry m s) := by
  unfold presenceExpiry; split
  · exact silence_told (h.setAa (authority_setPresence h.authority m (pr := ⟨.silent, none⟩) ⟨nofun, nofun⟩)) hq m
  · exact h

theorem offerExpiry_told (h : Told p s₀ s) : Told p s₀ (offerExpiry s) := by
  unfold offerExpiry; split
  · rename_i ha _
    exact h.setAa (authority_returned h.authority ha)
  · exact h

theorem takeClaim_told (h : Told p s₀ s) (hrun : s.ct.mode = .run) (m : Master) : Told p s₀ (takeClaim m s).state := by
  have held (hm : m ≠ .brake) (hv : s.aa.auth = .vacant) : AuthorityInv (s.setAa { s.aa with auth := .held m }) := by
    obtain ⟨hform, -, hpres⟩ := h.authority
    rw [hv] at hform
    exact ⟨⟨hm, hform⟩, fun hn => absurd hrun hn, hpres⟩
  unfold takeClaim
  split_ifs with hm _ hv
  case neg => exact (h.setAa (held hm (not_not.1 hv))).inactive .none (c := .holderSilent) (by decide)
  all_goals exact h

theorem takeRelease_told (h : Told p s₀ s) (m : Master) : Told p s₀ (takeRelease m s).state := by
  unfold takeRelease; split_ifs
  exacts [h, h.setAa (authority_vacant h.authority)]

/-- The brake controller never holds authority (R143). -/
theorem holder_ne_brake (h : AuthorityInv s) {m : Master} (hm : holds s m = true) : m ≠ .brake := by
  have hform := h.1
  rintro rfl
  unfold holds Authority.heldBy at hm
  split at hm <;> simp_all

theorem takeOffer_told (h : Told p s₀ s) (hrun : s.ct.mode = .run) (m : Master) (target : Nat) :
    Told p s₀ (takeOffer m target s).state := by
  unfold takeOffer
  split_ifs with hm
  · exact h
  · exact h
  · split
    · exact h
    · rename_i n _
      split_ifs with hnm hpres
      · exact h
      · exact h
      · have hn : n ≠ .brake := by rintro rfl; exact absurd hpres (by simp [Aa.isPresent, Aa.presence])
        have hh : m ≠ .brake := holder_ne_brake h.authority (by simpa using hm)
        exact h.setAa ⟨⟨hh, hn, Ne.symm hnm, rfl⟩, fun hne => absurd hrun hne, h.authority.2.2⟩

theorem takeAccept_told (h : Told p s₀ s) (m : Master) : Told p s₀ (takeAccept m s).state := by
  unfold takeAccept
  split
  · rename_i n ha
    split_ifs
    · obtain ⟨-, hn, hrun⟩ := authority_offered h.authority ha
      exact h.setAa (authority_held h.authority hn hrun)
    · exact h
  · exact h

end

end Sys2Proof.Machine

/-! # What the requests keep -/

namespace Sys2Proof.Machine

section

variable {p : Scope} {s₀ s : State} {k : Chan}

/-! ### Changes of channels by request -/

/-- A request's change of a channel that is not ABSENT and is not made so, without faults. -/
theorem Told.order (h : Told p s₀ s) {ch : Channel} (hr : ch.InRange p.raw (p.persist k)) (ht : ch.TimersAtMost (p.timer k))
    (hst : (s.ac.get k).state ≠ .absent) (hab : ch.state ≠ .absent)
    (hrel : ch.state.released = true → (s.ac.get k).state.released = true ∨
      callsPartnerRule (s.ac.get k.partner) = false ∧ s.sv.latch = false) : Told p s₀ (commit k ⟨ch, []⟩ s) :=
  h.change { record := hr, timers := ht, released := hrel, codes := nofun, quiet := fun _ => rfl
             absent := fun hp => ⟨fun ha => absurd ha hab, fun hf => absurd ((h.absent hp k).2 hf) hst⟩ }

theorem Told.setHold (h : Told p s₀ s) (m : HoldMode) : Told p s₀ (s.setSv { s.sv with hold := m }) :=
  h.ofSv { h.toCore with } rfl rfl

/-! ### UNLOCK -/

theorem takeReleased_not_absent {ch : Channel} (t : ConfigTable) (hold : HoldMode) :
    (ch.takeReleased t hold).state ≠ .absent ∧ callsPartnerRule (ch.takeReleased t hold) = false := by
  unfold Channel.takeReleased Channel.toTracking callsPartnerRule; dsimp only
  split_ifs <;> exact ⟨nofun, rfl⟩

theorem toReleasing_not_absent (ch : Channel) (t : ConfigTable) (hold : HoldMode) :
    (ch.toReleasing t hold).state ≠ .absent ∧ callsPartnerRule (ch.toReleasing t hold) = false := by
  unfold Channel.toReleasing; dsimp only; split_ifs
  exacts [takeReleased_not_absent t hold, ⟨nofun, rfl⟩]

/-- A committed change to a record that does not call for the partner rule makes no other record do so. -/
theorem commit_calls {st : ChanStep} (hc : callsPartnerRule st.ch = false) {j : Chan}
    (hj : callsPartnerRule (s.ac.get j) = false) : callsPartnerRule ((commit k st s).ac.get j) = false := by
  refine Bool.eq_false_iff.2 fun hcalls => ?_
  have := (commit_get k st s j).calls hcalls
  by_cases hjk : j = k
  · subst hjk; rw [Quad.get_set_self, hc] at this; exact absurd this nofun
  · rw [Quad.get_set_ne _ _ hjk, hj] at this; exact absurd this nofun

/-- What UNLOCK releases: the channels that qualified, while the latch is clear and no partner of one calls for centring. -/
structure Releasable (qual : Chan → Bool) (s : State) : Prop where
  latch : s.sv.latch = false
  partner : ∀ k, qual k = true → callsPartnerRule (s.ac.get k.partner) = false

theorem releaseIf_told (h : Told p s₀ s) {qual : Chan → Bool} (hq : Releasable qual s)
    (hst : qual k = true → (s.ac.get k).state ≠ .absent) :
    Told p s₀ (releaseIf qual k s) ∧ Releasable qual (releaseIf qual k s) := by
  unfold releaseIf; split_ifs with hk
  · obtain ⟨hab, hcalls⟩ := toReleasing_not_absent (s.ac.get k) s.ct.table s.sv.hold
    refine ⟨h.order (h.inRange k |>.toReleasing _ _) (Channel.toReleasing_atMost _ _ _ _) (hst hk) hab fun _ =>
      .inr ⟨hq.partner k hk, hq.latch⟩, ?_, fun j hj => commit_calls hcalls (hq.partner j hj)⟩
    rw [(commit_orders k _ s).2, hq.latch]; rfl
  · exact ⟨h, hq⟩

theorem releaseIf_state (qual : Chan → Bool) {j : Chan} (hj : j ≠ k)
    (hs : (s.ac.get j).state ≠ .absent) : ((releaseIf qual k s).ac.get j).state ≠ .absent := by
  unfold releaseIf; split_ifs
  · have hget := commit_get k ⟨(s.ac.get k).toReleasing s.ct.table s.sv.hold, []⟩ s j
    rw [Quad.get_set_ne _ _ hj] at hget
    obtain ⟨hd, -⟩ | ⟨hd, -⟩ := hget <;> rw [hd]
    exacts [hs, nofun]
  · exact hs

theorem qualifies_iff : qualifies s k = true ↔ fitted s k = true ∧ (s.ac.get k).state = .locked ∧
    ((s.ac.get k.partner).state = .locked ∨ (s.ac.get k.partner).state = .absent) := by
  simp [qualifies, and_assoc]

theorem releaseAll_told (h : Told p s₀ s) (hl : s.sv.latch = false) : Told p s₀ (releaseAll s) := by
  have start : Releasable (qualifies s) s := ⟨hl, fun k hk => by
    obtain ⟨-, -, hp | hp⟩ := qualifies_iff.1 hk <;> simp [callsPartnerRule, hp]⟩
  have present (k : Chan) (hk : qualifies s k = true) : (s.ac.get k).state ≠ .absent := by
    obtain ⟨-, hlocked, -⟩ := qualifies_iff.1 hk
    rw [hlocked]; nofun
  unfold releaseAll
  generalize hqual : qualifies s = qual at start present
  obtain ⟨h1, q1⟩ := releaseIf_told (k := .c1) h start (present .c1)
  obtain ⟨h2, q2⟩ := releaseIf_told (k := .c2) h1 q1 fun hk => releaseIf_state _ nofun (present .c2 hk)
  obtain ⟨h3, q3⟩ := releaseIf_told (k := .c3) h2 q2 fun hk =>
    releaseIf_state _ nofun (releaseIf_state _ nofun (present .c3 hk))
  exact (releaseIf_told (k := .c4) h3 q3 fun hk =>
    releaseIf_state _ nofun (releaseIf_state _ nofun (releaseIf_state _ nofun (present .c4 hk)))).1

theorem takeUnlock_told (h : Told p s₀ s) (m : Master) : Told p s₀ (takeUnlock m s).state := by
  unfold takeUnlock
  split_ifs with _ _ _ hl
  case neg => exact releaseAll_told h (by simpa using hl)
  all_goals exact h

/-! ### Centring orders -/

theorem centringOrder_get (k j : Chan) (s : State) : (centringOrder k s).ac.get j = s.ac.get j ∨
    (centringOrder k s).ac.get j = (s.ac.get j).toCentring false ∧ (s.ac.get j).state.released = true := by
  rw [centringOrder_ac]
  split_ifs with hr
  · by_cases hj : j = k
    · subst hj; rw [Quad.get_set_self]; exact .inr ⟨rfl, hr⟩
    · rw [Quad.get_set_ne _ _ hj]; exact .inl rfl
  · exact .inl rfl

theorem Told.centringOrder (h : Told p s₀ s) (k : Chan) : Told p s₀ (centringOrder k s) := by
  have hl : (Machine.centringOrder k s).sv.latch = s.sv.latch := (centringOrder_keeps k s).2
  have calls (j : Chan) (hj : callsPartnerRule ((Machine.centringOrder k s).ac.get j) = true) :
      callsPartnerRule (s.ac.get j) = true := by
    obtain hg | ⟨hg, -⟩ := centringOrder_get k j s <;> rw [hg] at hj
    exacts [hj, absurd hj nofun]
  have unreleased (j : Chan) (hj : (s.ac.get j).state.released = false) :
      ((Machine.centringOrder k s).ac.get j).state.released = false := by
    obtain hg | ⟨hg, -⟩ := centringOrder_get k j s <;> rw [hg]
    exacts [hj, rfl]
  refine { h.toCore.centringOrder k with
    channels := fun j => ?_, absent := fun hp j => ?_, seen := centringOrder_seen h.seen k
    bogie := ⟨fun j hj => unreleased _ (h.bogie.1 j (calls j hj)), fun hs j => unreleased _ (h.bogie.2 (hl ▸ hs) j)⟩ }
  all_goals obtain hg | ⟨hg, hr⟩ := centringOrder_get k j s <;> rw [hg]
  · exact h.channels j
  · exact ⟨(h.inRange j).toCentring false _, Channel.toCentring_atMost _ _ _⟩
  · exact h.absent hp j
  · rw [← h.absent hp j]
    exact ⟨nofun, fun ha => absurd (ha ▸ hr) nofun⟩

theorem Told.centringOrders (h : Told p s₀ s) : Told p s₀ (centringOrders s) :=
  (((h.centringOrder _).centringOrder _).centringOrder _).centringOrder _

theorem takeCentreAll_told (h : Told p s₀ s) (m : Master) : Told p s₀ (takeCentreAll m s).state := by
  unfold takeCentreAll; split_ifs
  exacts [h, h.centringOrders]

theorem takeCloseRoute_told (h : Told p s₀ s) (m : Master) : Told p s₀ (takeCloseRoute m s).state := by
  unfold takeCloseRoute; split_ifs
  exacts [h, h, (closeWindow_told h).centringOrders]

/-! ### CALIBRATE, HOLD, RESUME and SPEED_REFERENCE -/

theorem takeCalibrate_told (h : Told p s₀ s) (m : Master) (c : Nat) : Told p s₀ (takeCalibrate m c s).state := by
  unfold takeCalibrate
  split
  · exact h
  · split
    · exact h
    · rename_i k _
      split_ifs with _ hl
      · exact h
      · exact h
      · have hl : (s.ac.get k).state = .locked := by
          simp only [Bool.not_eq_true, Bool.not_eq_false', Bool.and_eq_true, beq_iff_eq] at hl
          exact hl.2
        exact h.order (h.inRange k).toHoming (Channel.toHoming_atMost _ _) (by rw [hl]; nofun) nofun nofun

theorem takeHold_told (h : Told p s₀ s) (m : Master) (mode : Nat) : Told p s₀ (takeHold m mode s).state := by
  unfold takeHold
  split_ifs
  · exact h
  · split
    exacts [h, h.setHold _]

theorem resumeOne_told (h : Told p s₀ s) : Told p s₀ (resumeOne k s) := by
  unfold resumeOne; dsimp only; split_ifs with hk
  · exact h.order { h.inRange k with } { h.timers k with } (by rw [hk]; nofun) nofun fun _ => .inl (by rw [hk]; rfl)
  · exact h

theorem takeResume_told (h : Told p s₀ s) (m : Master) : Told p s₀ (takeResume m s).state := by
  unfold takeResume; split_ifs
  · exact h
  · exact resumeOne_told (resumeOne_told (resumeOne_told (resumeOne_told (h.setHold .none))))

theorem takeSpeedReference_told (h : Told p s₀ s) (m : Master) (v : Int) (flags : Nat) :
    Told p s₀ (takeSpeedReference m v flags s).state := by
  unfold takeSpeedReference
  split_ifs
  exacts [h.setOdo fun hp => { h.odo hp with }, h]

/-! ### CLEAR_FAULTS -/

theorem rehome_told (h : Told p s₀ s) (hst : (s.ac.get k).state ≠ .absent) : Told p s₀ (rehome k s) := by
  unfold rehome; dsimp only; split_ifs
  · exact h.order (h.inRange k).toUnhomed.toHoming (Channel.toHoming_atMost _ _) hst nofun nofun
  · exact h.order (h.inRange k).toUnhomed (Channel.toUnhomed_atMost _ _) hst nofun nofun

theorem reportChannelInactive_ac (k : Chan) (s : State) : (reportChannelInactive k s).ac = s.ac :=
  (reportChannelInactive_onlySv k s).2.2.2.2.2.2.2.1

theorem clearChannel_told (h : Told p s₀ s) : Told p s₀ (clearChannel k s) := by
  unfold clearChannel; split_ifs with hk
  · refine rehome_told (h.channelInactive k) ?_
    rw [reportChannelInactive_ac, hk.2]; nofun
  · exact h

/-- The removal of the inactive records (R204) takes no record of a met HORIZON_SHORTFALL away. -/
theorem Told.removeInactive (h : Told p s₀ s) (hr : p.requests) : Told p s₀ (s.setSv s.sv.removeInactive) := by
  have hshrink : (others s.sv.removeInactive.faults).length ≤ (others s.sv.faults).length :=
    ((List.filter_sublist).filter _).length_le
  have hmem (f : FaultRecord) : f ∈ s.sv.removeInactive.faults ↔ f ∈ s.sv.faults ∧ f.active = true := List.mem_filter
  refine h.ofSv { h.toBase.setSv (v := s.sv.removeInactive) rfl rfl ⟨rfl, rfl, rfl, rfl, rfl⟩
    (removeInactive_faultInv h.faults) ?_ (fun _ => hshrink) with route := h.route } rfl rfl
  exact h.tracks.of_others rfl rfl (fun _ => rfl) (fun f hf _ ha => (hmem f).2 ⟨hf, ha⟩) (fun f hf _ _ => ((hmem f).1 hf).1)
    fun h0 _ => (h.shrinks hr).trans_lt h0

theorem takeClearFaults_told (h : Told p s₀ s) (hr : p.requests) (m : Master) :
    Told p s₀ (takeClearFaults m s).state := by
  unfold takeClearFaults; split_ifs
  · exact h
  · exact h
  · exact (clearTachos_told (clearChannel_told (clearChannel_told (clearChannel_told (clearChannel_told h))))).removeInactive hr

/-! ### SET_GAIN, SLEEP and RESTART -/

theorem takeSetGain_told (h : Told p s₀ s) (m : Master) (g : Nat) : Told p s₀ (takeSetGain m g s).state := by
  unfold takeSetGain; split_ifs
  · exact h
  · exact { h with config := ⟨h.config.1, Nat.min_le_right _ _⟩ }

theorem takeModeChange_told (h : Told p s₀ s) (m : Master) (c : PendingMode) : Told p s₀ (takeModeChange m c s).state := by
  unfold takeModeChange; split_ifs
  exacts [h, h, h, { h with }]

/-! ### The route requests -/

theorem takeOpenRoute_told (h : Told p s₀ s) (hx : p.exact → s.sv.shortfall = s₀.sv.shortfall) (m : Master)
    (f : OpenRouteFields) : Told p s₀ (takeOpenRoute m f s).state := by
  unfold takeOpenRoute
  split_ifs with _ _ hf
  · exact h
  · exact h
  · exact h
  · split
    exacts [h, openRoute_told h (by simpa using hf) _ hx]

theorem takeAppendSegment_told (h : Told p s₀ s) (m : Master) (f : SegmentFields) :
    Told p s₀ (takeAppendSegment m f s).state := by
  unfold takeAppendSegment
  split_ifs with _ ho hn hl
  case neg =>
    split
    · exact h
    · exact appendSegment_told h (not_not.1 hn) (not_le.1 hl) (by simpa using ho) ‹_›
  all_goals exact h

theorem takePlace_told (h : Told p s₀ s) (hx : p.exact → s.sv.shortfall = s₀.sv.shortfall) (m : Master) (rRef u : Nat) :
    Told p s₀ (takePlace m rRef u s).state := by
  unfold takePlace
  split_ifs with _ ho hf
  case neg =>
    simp only [Bool.not_eq_true, Bool.not_eq_false', Bool.and_eq_true] at hf
    exact place_told h (by simpa using ho) (of_decide_eq_true hf.1) (of_decide_eq_true hf.2) hx
  all_goals exact h

/-! ### SET_CONFIG: the table -/

/-- A part parameter set reads back as its value, and leaves the other parameters (R182, R185). -/
theorem PartParam.get_set (t : ConfigTable) {q : PartParam} {v : Int} (hv : q.range.1 ≤ v ∧ v ≤ q.range.2) (r : PartParam) :
    r.get (q.set t v) = if r = q then v else r.get t := by
  by_cases hr : r = q
  · subst hr
    rw [if_pos rfl]
    cases r <;> simp only [PartParam.range] at hv <;> simp only [PartParam.get, PartParam.set]
    case horizonCond | fitting => split_ifs <;> grind
    all_goals omega
  · rw [if_neg hr]
    cases q <;> cases r <;> first | rfl | exact absurd rfl hr

theorem PartParam.set_chan (t : ConfigTable) (q : PartParam) (v : Int) : (q.set t v).chan = t.chan := by cases q <;> rfl

theorem ChanParam.get_set (c : ChanConfig) {q : ChanParam} {v : Int} (hv : q.range.1 ≤ v ∧ v ≤ q.range.2) (r : ChanParam) :
    r.get (q.set c v) = if r = q then v else r.get c := by
  by_cases hr : r = q
  · subst hr
    rw [if_pos rfl]
    cases r <;> simp only [ChanParam.range] at hv <;> simp only [ChanParam.get, ChanParam.set]
    case enable => simp only [decide_eq_true_eq]; split_ifs <;> omega
    all_goals omega
  · rw [if_neg hr]
    cases q <;> cases r <;> first | rfl | exact absurd rfl hr

theorem ParamRef.admits_iff {q : ParamRef} {v : Int} : q.admits v = true ↔ q.range.1 ≤ v ∧ v ≤ q.range.2 := by
  simp [ParamRef.admits]

/-- A parameter set to a value it admits reads back so, and the others as before (R185). -/
theorem ParamRef.get_set (t : ConfigTable) {q : ParamRef} {v : Int} (hv : q.admits v = true) (r : ParamRef) :
    r.get (q.set t v) = if r = q then v else r.get t := by
  have hv := admits_iff.1 hv
  cases q with
  | part q =>
    cases r with
    | part r => simpa [ParamRef.get, ParamRef.set] using q.get_set t hv r
    | chan r k => simp [ParamRef.get, ParamRef.set, q.set_chan]
  | chan q k =>
    cases r with
    | part r =>
      rw [if_neg nofun]
      simp only [ParamRef.get, ParamRef.set]
      cases r <;> rfl
    | chan r j =>
      simp only [ParamRef.get, ParamRef.set, ParamRef.chan.injEq]
      by_cases hj : j = k
      · subst hj
        rw [Quad.get_set_self, q.get_set _ hv]
        simp
      · rw [Quad.get_set_ne _ _ hj, if_neg fun h => hj h.2]

theorem config_set {q : ParamRef} {v : Int} (h : ConfigInv s) (hv : q.admits v = true) :
    ConfigInv (s.setCt { s.ct with table := q.set s.ct.table v }) := by
  refine ⟨fun r => ?_, h.2⟩
  rw [State.setCt_ct, ParamRef.get_set _ hv]
  split_ifs with hr
  exacts [hr ▸ hv, h.1 r]

end

end Sys2Proof.Machine

/-! # What SET_CONFIG keeps -/

namespace Sys2Proof.Machine

/-- The scope with one channel fitted or not, and the derivation held to `d`. -/
def Scope.setFit (p : Scope) (k : Chan) (b : Bool) (d : Prop) : Scope :=
  { p with fit := fun j => if j = k then b else p.fit j, derived := d }

section

variable {p : Scope} {s₀ s : State} {k : Chan}

/-! ### What is derived, through a channel's change -/

theorem reportState_derived (h : Derived s) (k : Chan) : Derived (reportState k s) := by
  unfold reportState; dsimp only; split_ifs
  exacts [h, derive_derives _]

theorem centringOrder_derived (h : Derived s) (k : Chan) : Derived (centringOrder k s) := by
  unfold centringOrder; dsimp only; split_ifs
  exacts [reportState_derived (s := putChannel k _ s) h k, h]

/-- A change of a channel's state that the view does not show yet brings the derivation (R91, R127). -/
theorem commit_derived {ch : Channel} (hs : (s.sv.view.get k).state ≠ ch.state) (hb : (s.ac.get k).state ≠ ch.state) :
    Derived (commit k ⟨ch, []⟩ s) := by
  have told : Derived (reportState k (putChannel k ch s)) := by
    unfold reportState; dsimp only
    rw [putChannel_ac, Quad.get_set_self, if_neg]
    · exact derive_derives _
    · intro hv
      exact hs (congrArg ChanView.state hv)
  show Derived (reportChange k (s.ac.get k) (putChannel k ch s))
  unfold reportChange; dsimp only
  rw [putChannel_ac, Quad.get_set_self, if_neg fun h => hb h.1]
  split_ifs
  exacts [centringOrder_derived told _, told]

/-- What is derived depends on the table by the fitted channels alone (R136, R137, R140). -/
theorem derived_congr {t u : State} (h : Derived t) (hv : u.sv = t.sv)
    (hf : ∀ k, u.ct.table.fitted k = t.ct.table.fitted k) : Derived u := by
  unfold Derived at h ⊢
  simp only [steeringModeOf, levelOf, shortfallOf, someFitted, bogieSteers, bogieFitted, hf, hv] at h ⊢
  exact h

/-! ### A fitting change at one channel (R123) -/

theorem reportSource_source (k : Chan) (s : State) :
    ((reportSource k s).sv.view.get k).source = ((reportSource k s).ss.get k).source := by
  unfold reportSource; dsimp only; split_ifs with hv
  · rw [hv]
  · rw [derive_view, State.setSv_sv, Quad.get_set_self, (derive_onlySv _).2.2.2.2.2.2.1, State.setSv_ss]

theorem inactiveIfFaulted_told (h : Told p s₀ s) : Told p s₀ (inactiveIfFaulted k s) := by
  unfold inactiveIfFaulted; split
  exacts [h.channelInactive k, h]

theorem inactiveIfFaulted_ac (k : Chan) (s : State) : (inactiveIfFaulted k s).ac = s.ac := by
  unfold inactiveIfFaulted; split
  exacts [reportChannelInactive_ac k s, rfl]

theorem inactiveIfFaulted_ct (k : Chan) (s : State) : (inactiveIfFaulted k s).ct = s.ct := by
  unfold inactiveIfFaulted; split
  exacts [(reportChannelInactive_onlySv k s).2.2.2.2.2.2.2.2.1, rfl]

/-- The scope at one channel, for a change there. -/
theorem Told.refits {q : Scope} (h : Told p s₀ s) {b : Bool} {ch : Channel} (hq : q = p.setFit k b p.derived)
    (hr : ch.InRange p.raw (p.persist k)) (ht : ch.TimersAtMost (p.timer k)) (hab : ch.state = .absent ↔ b = false)
    (hrel : ch.state.released = false) (hsrc : b = true → (s.sv.view.get k).source = (s.ss.get k).source) :
    Told q s₀ (commit k ⟨ch, []⟩ s) := by
  subst hq
  have core : Core (p.setFit k b p.derived) s₀ s := by
    refine { h.toCore with sources := fun j hj => ?_ }
    by_cases hjk : j = k
    · subst hjk; exact hsrc (by simpa [Scope.setFit] using hj)
    · exact h.sources j (by simpa [Scope.setFit, hjk] using hj)
  refine h.changeTo core rfl id (fun j hj => ⟨by simp [Scope.setFit, hj], rfl, rfl⟩)
    { record := hr, timers := ht, released := fun hrel' => absurd (hrel'.symm.trans hrel) nofun, codes := nofun
      quiet := fun _ => rfl, absent := fun _ => by simpa [Scope.setFit] using hab }

/-- The derivation that a change of a channel's state brings, over what the scope held it to. -/
theorem Told.derives {b : Bool} {d : Prop} {t : State} (h : Told (p.setFit k b p.derived) s₀ t) (hd : Derived t) :
    Told (p.setFit k b d) s₀ t := { h with derived := fun _ => hd }

theorem refit_told (h : Told p s₀ s) (hp : p.requests) {before : ConfigTable} (hb : p.fit k = before.fitted k) :
    Told (p.setFit k (fitted s k) (p.derived ∨ before.fitted k ≠ fitted s k)) s₀ (refit before k s) := by
  unfold refit
  split_ifs with hgone hnew
  · obtain ⟨hbf, hf⟩ := hgone
    have hf : fitted s k = false := Bool.eq_false_iff.2 hf
    have ended : Told p s₀ (inactiveIfFaulted k s) := inactiveIfFaulted_told h
    rw [hf]
    have present : ((inactiveIfFaulted k s).ac.get k).state ≠ .absent := fun ha => by
      have := (ended.absent hp k).1 ha
      rw [hb, hbf] at this; exact absurd this nofun
    refine Told.derives (ended.refits rfl (ended.inRange k).toAbsent (Channel.toAbsent_atMost _ _) ⟨fun _ => rfl, fun _ => rfl⟩
      rfl nofun) (commit_derived ?_ present)
    rw [(ended.seen k).1]; exact present
  · obtain ⟨hbf, hf⟩ := hnew
    have hbf : before.fitted k = false := Bool.eq_false_iff.2 hbf
    have reset : SsRec.reset.InRange := ⟨Nat.zero_le _, Nat.zero_le _⟩
    have reported : Told p s₀ (reportSource k (s.setSs (s.ss.set k SsRec.reset))) := h.record reset
    have seen : ((reportSource k (s.setSs (s.ss.set k SsRec.reset))).sv.view.get k).source =
      ((reportSource k (s.setSs (s.ss.set k SsRec.reset))).ss.get k).source := reportSource_source k _
    generalize reportSource k (s.setSs (s.ss.set k SsRec.reset)) = s1 at reported seen
    rw [hf]
    have absent : (s1.ac.get k).state = .absent := (reported.absent hp k).2 (hb.trans hbf)
    dsimp only
    have cleared : Told p s₀ (putChannel k { s1.ac.get k with persist := 0 } s1) :=
      reported.put ⟨rfl, rfl⟩ { reported.inRange k with persist := Nat.zero_le _ } { reported.timers k with }
    have entered (ch : Channel) (hr : ch.InRange p.raw (p.persist k)) (ht : ch.TimersAtMost (p.timer k))
        (hab : ch.state ≠ .absent) (hrel : ch.state.released = false) :
        Told (p.setFit k true (p.derived ∨ before.fitted k ≠ true)) s₀
          (commit k ⟨ch, []⟩ (putChannel k { s1.ac.get k with persist := 0 } s1)) := by
      refine Told.derives (cleared.refits rfl hr ht ⟨fun h => absurd h hab, nofun⟩ hrel fun _ => seen) (commit_derived ?_ ?_)
      · rw [(cleared.seen k).1, putChannel_ac, Quad.get_set_self]; exact absent ▸ hab.symm
      · rw [putChannel_ac, Quad.get_set_self]; exact absent ▸ hab.symm
    unfold rehome; dsimp only; split_ifs
    · exact entered _ (cleared.inRange k).toUnhomed.toHoming (Channel.toHoming_atMost _ _) nofun rfl
    · exact entered _ (cleared.inRange k).toUnhomed (Channel.toUnhomed_atMost _ _) nofun rfl
  · have same : before.fitted k = fitted s k := by
      cases hbf : before.fitted k <;> cases hf : fitted s k
      exacts [rfl, absurd ⟨by simp [hbf], hf⟩ hnew, absurd ⟨hbf, by simp [hf]⟩ hgone, rfl]
    have hfit : (fun j => if j = k then fitted s k else p.fit j) = p.fit := by
      funext j; split_ifs with hj
      exacts [by rw [hj, hb, same], rfl]
    unfold Scope.setFit
    rw [hfit]
    exact { h with derived := fun hd => h.derived (hd.resolve_right fun hne => hne same) }

theorem refit_ct (before : ConfigTable) (k : Chan) (s : State) : (refit before k s).ct = s.ct := by
  have rehomed (k : Chan) (s : State) : (rehome k s).ct = s.ct := (commit_onlyAcSv k _ s).2.2.2.2.2.2.2.1
  unfold refit; split_ifs
  · exact ((commit_onlyAcSv k _ _).2.2.2.2.2.2.2.1).trans (inactiveIfFaulted_ct k s)
  · exact (rehomed k _).trans (reportSource_onlySv k _).2.2.2.2.2.2.2.2.1
  · rfl

/-- The scope may name the fitted channels by an equal function, once what it derives is derived. -/
theorem Told.rescope (h : Told p s₀ s) {fit : Chan → Bool} (hf : ∀ k, p.fit k = fit k) (hd : p.derived) {d : Prop} :
    Told { p with fit := fit, derived := d } s₀ s :=
  { h with
    sources := fun k hk => h.sources k ((hf k).trans hk), derived := fun _ => h.derived hd
    absent := fun hp k => (h.absent hp k).trans (by rw [hf k]) }

/-! ### The storing of a value (R185) -/

/-- The scope of a table, with the channels that it fits. -/
def Scope.within (p : Scope) (t : ConfigTable) : Scope := { p with table := t, fit := t.fitted }

theorem storeConfig_ct (q : ParamRef) (v : Int) (s : State) :
    (storeConfig q v s).ct = { s.ct with table := q.set s.ct.table v } := by
  unfold storeConfig; simp only [refit_ct, State.setCt_ct]

theorem storeConfig_told (h : Told (p.within s.ct.table) s₀ s) (hp : p.requests) (hd : p.derived) {q : ParamRef} {v : Int}
    (hv : q.admits v = true) : Told (p.within (q.set s.ct.table v)) s₀ (storeConfig q v s) := by
  have stored : Told { p.within s.ct.table with
      table := q.set s.ct.table v, derived := ∀ k, s.ct.table.fitted k = (q.set s.ct.table v).fitted k } s₀
      (s.setCt { s.ct with table := q.set s.ct.table v }) :=
    { h with
      config := config_set h.config hv, table := rfl
      derived := fun hf => derived_congr (h.derived hd) rfl fun k => (hf k).symm }
  unfold storeConfig; dsimp only
  have fits (u : State) (hu : u.ct = { s.ct with table := q.set s.ct.table v }) (k : Chan) :
      fitted u k = (q.set s.ct.table v).fitted k := by rw [fitted, hu]
  generalize hb : s.ct.table = before at stored fits
  have f0 := fits _ (rfl : (s.setCt { s.ct with table := q.set before v }).ct = _)
  generalize s.setCt { s.ct with table := q.set before v } = u at stored f0
  have t1 := refit_told (k := .c1) stored hp (before := before) rfl
  have t2 := refit_told (k := .c2) t1 hp (before := before) rfl
  have t3 := refit_told (k := .c3) t2 hp (before := before) rfl
  have t4 := refit_told (k := .c4) t3 hp (before := before) rfl
  have fit_refit (k j : Chan) (u : State) : fitted (refit before k u) j = fitted u j := by rw [fitted, fitted, refit_ct]
  simp only [fit_refit, f0] at t1 t2 t3 t4
  refine t4.rescope (fit := (q.set before v).fitted) (fun k => ?_) ?_
  · cases k <;> simp [Scope.setFit]
  · by_cases hsame : ∀ k, before.fitted k = (q.set before v).fitted k
    · exact .inl (.inl (.inl (.inl hsame)))
    · obtain ⟨k, hk⟩ := not_forall.1 hsame
      cases k
      exacts [.inl (.inl (.inl (.inr hk))), .inl (.inl (.inr hk)), .inl (.inr hk), .inr hk]

end

end Sys2Proof.Machine

/-! # The line through the part's operations -/

namespace Sys2Proof.Machine

/-- The Line Interface, the mode and the power are these. -/
structure LineAt (l : Li) (m : Mode) (w : Power) (s : State) : Prop where
  li : s.li = l
  mode : s.ct.mode = m
  power : s.power = w

section

variable {l : Li} {m : Mode} {w : Power} {s : State} {k : Chan}

theorem LineAt.start (s : State) : LineAt s.li s.ct.mode s.power s := ⟨rfl, rfl, rfl⟩

theorem LineAt.ite {q : Prop} [Decidable q] {t : State} (hs : LineAt l m w s) (ht : LineAt l m w t) :
    LineAt l m w (if q then s else t) := by
  split_ifs
  exacts [hs, ht]

theorem LineAt.setAa (h : LineAt l m w s) (v : Aa) : LineAt l m w (s.setAa v) := { h with }
theorem LineAt.setRw (h : LineAt l m w s) (v : Rw) : LineAt l m w (s.setRw v) := { h with }
theorem LineAt.setOdo (h : LineAt l m w s) (v : Odo) : LineAt l m w (s.setOdo v) := { h with }
theorem LineAt.setPfu (h : LineAt l m w s) (v : Pfu) : LineAt l m w (s.setPfu v) := { h with }
theorem LineAt.setSs (h : LineAt l m w s) (v : Quad SsRec) : LineAt l m w (s.setSs v) := { h with }
theorem LineAt.setAc (h : LineAt l m w s) (v : Quad Channel) : LineAt l m w (s.setAc v) := { h with }
theorem LineAt.setSv (h : LineAt l m w s) (v : Sv) : LineAt l m w (s.setSv v) := { h with }
theorem LineAt.setPath (h : LineAt l m w s) (v : Path) : LineAt l m w (s.setPath v) := { h with }

theorem LineAt.setCt (h : LineAt l m w s) {v : Ct} (hv : v.mode = s.ct.mode) : LineAt l m w (s.setCt v) :=
  { h with mode := hv.trans h.mode }

theorem LineAt.only {t : State} (h : LineAt l m w s) (ht : OnlyAcSv s t) : LineAt l m w t := by
  obtain ⟨hp, hl, -, -, -, -, -, hc, -⟩ := ht
  exact ⟨hl.trans h.li, (congrArg Ct.mode hc).trans h.mode, hp.trans h.power⟩

theorem LineAt.sv {t : State} (h : LineAt l m w s) (ht : OnlySv s t) : LineAt l m w t := h.only ht.toAcSv

theorem LineAt.raise (h : LineAt l m w s) (c : FaultCode) (sub : Subject) : LineAt l m w (raiseFault c sub s) := h.setSv _

theorem LineAt.inactive (h : LineAt l m w s) (c : FaultCode) (sub : Subject) : LineAt l m w (reportInactive c sub s) :=
  h.setSv _

theorem LineAt.reportRoute (h : LineAt l m w s) : LineAt l m w (reportRoute s) := h.sv (reportRoute_onlySv s)

theorem LineAt.reportSource (h : LineAt l m w s) (k : Chan) : LineAt l m w (reportSource k s) :=
  h.sv (reportSource_onlySv k s)

theorem LineAt.commit (h : LineAt l m w s) (k : Chan) (st : ChanStep) : LineAt l m w (commit k st s) :=
  h.only (commit_onlyAcSv k st s)

theorem LineAt.eachChannel {f : Chan → State → State} (hf : ∀ k {s}, LineAt l m w s → LineAt l m w (f k s))
    (h : LineAt l m w s) : LineAt l m w (eachChannel f s) := hf _ (hf _ (hf _ (hf _ h)))

/-! ### The Route Window -/

theorem unplace_line (h : LineAt l m w s) : LineAt l m w (unplace s) := .ite ((h.setPfu _).setSv _) (h.setPfu _)

theorem closeWindow_line (h : LineAt l m w s) : LineAt l m w (closeWindow s) :=
  (unplace_line ((h.setRw Rw.reset).setPath (voidMarks s.path))).sv (reportRoute_onlySv _)

theorem openRoute_line (h : LineAt l m w s) (f : OpenRouteFields) (lead : VehicleEnd) :
    LineAt l m w (openRoute f lead s) := by
  rw [openRoute_eq]
  exact (show LineAt l m w (reopened f lead s) from { h with }).sv (reportRoute_onlySv _)

theorem windowTakes_line (h : LineAt l m w s) (sample : Sample) : LineAt l m w (windowTakes sample s) :=
  .ite ((h.setRw _).setPath _) ((h.setRw _).setPath _)

theorem sampleAtRw_line (h : LineAt l m w s) : LineAt l m w (sampleAtRw s) := by
  unfold sampleAtRw; split
  exacts [h, windowTakes_line (h.setPath _) _]

theorem beaconMark_line (h : LineAt l m w s) : LineAt l m w (beaconMark s) := by
  unfold beaconMark; split
  · exact h
  · dsimp only; split_ifs
    exacts [h.setPath _, ((h.setPath _).setPfu _).setRw _]

/-! ### The Odometer -/

theorem tachoFailed_line (h : LineAt l m w s) (x : Tacho) : LineAt l m w (tachoFailed x s) := .ite ((h.setOdo _).raise _ _) h

theorem tachoDisagree_line (h : LineAt l m w s) : LineAt l m w (tachoDisagree s) := .ite ((h.setOdo _).raise _ _) h

theorem tachoAgreementReached_line (h : LineAt l m w s) : LineAt l m w (tachoAgreementReached s) := .ite (h.setSv _) h

theorem streakReports_line (h : LineAt l m w s) (before : Nat) : LineAt l m w (streakReports before s) :=
  .ite (tachoAgreementReached_line (tachoDisagree_line h)) (tachoDisagree_line h)

theorem standstillReached_line (h : LineAt l m w s) : LineAt l m w (standstillReached s) := .ite (h.setOdo _) h

theorem decideStandstill_line (h : LineAt l m w s) (i : FrameInput) : LineAt l m w (decideStandstill i s) := by
  refine .ite (.ite (.ite ((h.setOdo _).setOdo _) (h.setOdo _)) (h.setOdo _)) ?_
  split
  · exact .ite (h.setOdo _) (h.setOdo _)
  · exact h.setOdo _

theorem withdrawOffer_line (h : LineAt l m w s) : LineAt l m w (withdrawOffer s) := by
  unfold withdrawOffer; split
  exacts [h.setAa _, h]

theorem closeFrame_line (h : LineAt l m w s) (ft : FrameTimer) : LineAt l m w (closeFrame ft s) := by
  have decided (o : Odo) (i : FrameInput) (n : Nat) :
      LineAt l m w (decideStandstill i (streakReports n (tachoFailed .t2 (tachoFailed .t1 (s.setOdo o))))) :=
    decideStandstill_line (streakReports_line (tachoFailed_line (tachoFailed_line (h.setOdo _) _) _) _) i
  exact (LineAt.ite (withdrawOffer_line (decided _ _ _)) (decided _ _ _)).setPath _

theorem frameTimerExpiry_line (h : LineAt l m w s) : LineAt l m w (frameTimerExpiry s) := by
  unfold frameTimerExpiry; split
  exacts [h, closeFrame_line h _]

theorem positionCorrection_line (h : LineAt l m w s) : LineAt l m w (positionCorrection s) := by
  unfold positionCorrection; split
  · exact h
  · exact .ite (h.setPath _) ((h.setPath _).setOdo _)

/-! ### The Position Fix Unit -/

theorem beaconMissed_line (h : LineAt l m w s) : LineAt l m w (beaconMissed s) := .ite ((h.setPfu _).raise _ _) h

theorem foldl_missBeacon_line (h : LineAt l m w s) (bs : List BeaconAt) : LineAt l m w (bs.foldl missBeacon s) := by
  induction bs generalizing s with
  | nil => exact h
  | cons b bs ih => exact ih (beaconMissed_line (((h.setPfu _).setPath _).setPfu _))

theorem driftTest_line (h : LineAt l m w s) : LineAt l m w (driftTest s) :=
  .ite ((h.setPfu _).sv (reportRoute_onlySv _)) h

theorem sampleAtPfu_line (h : LineAt l m w s) : LineAt l m w (sampleAtPfu s) := by
  unfold sampleAtPfu; split
  · exact h
  · exact (LineAt.ite (h.setPath _) (driftTest_line (foldl_missBeacon_line ((h.setPath _).setPfu _) _))).setPath _

theorem matchBeacon_line (h : LineAt l m w s) (reader : Int) (b : BeaconAt) : LineAt l m w (matchBeacon reader b s) := by
  refine LineAt.reportRoute (.inactive (.ite (.inactive ?_ _ _) ?_) _ _)
  all_goals exact (((h.setPfu _).setPath _).setPath _).setPfu _

theorem conflict_line (h : LineAt l m w s) : LineAt l m w (conflict s) :=
  ((h.setPfu _).sv (reportRoute_onlySv _)).raise _ _

theorem beaconTelegram_line (h : LineAt l m w s) (id : Nat) (good : Bool) : LineAt l m w (beaconTelegram id good s) := by
  unfold beaconTelegram; dsimp only
  refine .ite h ?_
  split
  · exact matchBeacon_line h _ _
  · exact .ite h (.ite h (conflict_line h))

theorem place_line (h : LineAt l m w s) (rRef u : Nat) : LineAt l m w (place rRef u s) := by
  refine LineAt.reportRoute (.inactive ?_ _ _)
  exact ((h.setOdo _).setPfu _).setPath _

/-! ### The schedule and the Arbiter -/

theorem scheduleChannel_line (h : LineAt l m w s) (sample : Sample) (e : HandEntry) (k : Chan) :
    LineAt l m w (scheduleChannel sample e k s) :=
  .ite (((h.setSs _).sv (reportSource_onlySv k _)).only (deliver_onlyAcSv k _ _)) h

theorem scheduleTakes_line (h : LineAt l m w s) (x : HandOver) : LineAt l m w (scheduleTakes x s) :=
  scheduleChannel_line (scheduleChannel_line (scheduleChannel_line (scheduleChannel_line h _ _ _) _ _ _) _ _ _) _ _ _

theorem sampleAtSs_line (h : LineAt l m w s) : LineAt l m w (sampleAtSs s) := by
  unfold sampleAtSs; split
  · exact h
  · rename_i x rest _
    have used : LineAt l m w (useLimits (s.setPath { s.path with atSs := rest })) := { h with }
    exact scheduleTakes_line used x

theorem carryLimitExceeded_line (h : LineAt l m w s) (k : Chan) : LineAt l m w (carryLimitExceeded k s) :=
  .ite ((h.setSs _).sv (reportSource_onlySv k _)) h

theorem silence_line (h : LineAt l m w s) (x : Master) : LineAt l m w (silence x s) := by
  refine .ite ((h.setAa _).raise _ _) ?_
  split
  exacts [.ite (h.setAa _) h, h]

theorem presenceExpiry_line (h : LineAt l m w s) (x : Master) : LineAt l m w (presenceExpiry x s) := by
  unfold presenceExpiry; split
  exacts [silence_line (h.setAa _) x, h]

theorem offerExpiry_line (h : LineAt l m w s) : LineAt l m w (offerExpiry s) := by
  unfold offerExpiry; split
  exacts [h.setAa _, h]

/-! ### The modes -/

theorem resetRecord_line (h : LineAt l m w s) (k : Chan) : LineAt l m w (resetRecord k s) :=
  .ite ((h.setSs _).sv (reportSource_onlySv k _)) (h.setSs _)

theorem resetRecords_line (h : LineAt l m w s) : LineAt l m w (resetRecords s) :=
  LineAt.eachChannel (fun k _ h => resetRecord_line h k) h

theorem sleepChannel_line (h : LineAt l m w s) (k : Chan) : LineAt l m w (sleepChannel k s) :=
  .ite ((h.only (inactiveIfFaulted_onlyAcSv k s)).only (commit_onlyAcSv k _ _)) h

theorem restartChannel_line (h : LineAt l m w s) (k : Chan) : LineAt l m w (restartChannel k s) :=
  .ite ((h.only (inactiveIfFaulted_onlyAcSv k s)).only (commit_onlyAcSv k _ _)) h

theorem homeChannel_line (h : LineAt l m w s) (k : Chan) : LineAt l m w (homeChannel k s) :=
  .ite (h.only (commit_onlyAcSv k _ _)) h

/-- Entry to SLEEP empties the line's queue and stops its receiver (R180, R191). -/
theorem sleepEntry_line (h : LineAt l m w s) : LineAt l.asleep .sleep w (sleepEntry s) := by
  have slept {t : State} (ht : LineAt l.asleep m w t) : LineAt l.asleep .sleep w (t.setCt { t.ct with
      gain := 100, mode := .sleep, stab := none, pendingMode := .none }) := ⟨ht.li, rfl, ht.power⟩
  have quiet : LineAt l.asleep m w (s.setLi s.li.asleep) := ⟨congrArg Li.asleep h.li, h.mode, h.power⟩
  have closed := closeWindow_line (((quiet.setAa Aa.reset).setOdo s.odo.asleep).setPath Path.empty)
  exact slept ((LineAt.eachChannel (fun k _ h => sleepChannel_line h k) closed).setSv _)

theorem restartEffects_line (h : LineAt l m w s) : LineAt l m w (restartEffects s) :=
  ((LineAt.eachChannel (fun k _ h => restartChannel_line h k)
    (resetRecords_line (closeWindow_line (h.setAa Aa.reset)))).setSv _).setCt rfl

/-- The wake takes the line BUSY, with the receiver waiting for it to be idle (R180, R192). -/
theorem wake_line (h : LineAt l m w s) (hm : m = .sleep) :
    LineAt { l with receiver := .waiting, inFrame := true, line := .busy, ones := 0 } .waking w (wake s) := by
  unfold wake
  rw [if_pos (h.mode.trans hm)]
  exact resetRecords_line ⟨by rw [← h.li]; rfl, rfl, h.power⟩

theorem stabilisationExpiry_line (h : LineAt l m w s) : LineAt l m w (stabilisationExpiry s) ∨
    m = .waking ∧ LineAt l .run w (stabilisationExpiry s) := by
  unfold stabilisationExpiry; split
  · rename_i hm _
    exact .inr ⟨h.mode.symm.trans hm, LineAt.eachChannel (fun k _ h => homeChannel_line h k) ⟨h.li, rfl, h.power⟩⟩
  · exact .inl h

/-! ### The requests -/

theorem clearTachos_line (h : LineAt l m w s) : LineAt l m w (clearTachos s) :=
  ((h.setOdo _).setSv _).setSv _

theorem refit_line (h : LineAt l m w s) (before : ConfigTable) (k : Chan) : LineAt l m w (refit before k s) :=
  .ite ((h.only (inactiveIfFaulted_onlyAcSv k s)).only (commit_onlyAcSv k _ _))
    (.ite ((((h.setSs _).sv (reportSource_onlySv k _)).only (putChannel_onlyAcSv k _ _)).only
      (rehome_onlyAcSv k _)) h)

theorem ownerTakes_line (h : LineAt l m w s) (x : Master) (req : Request) : LineAt l m w (ownerTakes x req s).state := by
  have read (ok : Bool) : LineAt l m w (takeRead ok s).state := by unfold takeRead; split_ifs <;> exact h
  have modeChange (c : PendingMode) : LineAt l m w (takeModeChange x c s).state := by
    unfold takeModeChange; split_ifs
    exacts [h, h, h, h.setCt rfl]
  cases req with
  | claim => show LineAt l m w (takeClaim x s).state; unfold takeClaim; split_ifs; exacts [h, h, h, h, (h.setAa _).setSv _]
  | release => show LineAt l m w (takeRelease x s).state; unfold takeRelease; split_ifs; exacts [h, h.setAa _]
  | offer target => show LineAt l m w (takeOffer x target s).state; unfold takeOffer; (repeat' split); exacts [h, h, h, h, h, h.setAa _]
  | accept => show LineAt l m w (takeAccept x s).state; unfold takeAccept; (repeat' split); exacts [h.setAa _, h, h]
  | openRoute f => show LineAt l m w (takeOpenRoute x f s).state; unfold takeOpenRoute; (repeat' split); exacts [h, h, h, h, openRoute_line h f _]
  | appendSegment f => show LineAt l m w (takeAppendSegment x f s).state; unfold takeAppendSegment; (repeat' split); exacts [h, h, h, h, h, h.setRw _]
  | closeRoute =>
    show LineAt l m w (takeCloseRoute x s).state; unfold takeCloseRoute; split_ifs
    exacts [h, h, (closeWindow_line h).only (centringOrders_onlyAcSv _)]
  | place rRef u => show LineAt l m w (takePlace x rRef u s).state; unfold takePlace; split_ifs; exacts [h, h, h, place_line h rRef u]
  | speedReference v flags => show LineAt l m w (takeSpeedReference x v flags s).state; unfold takeSpeedReference; split_ifs; exacts [h.setOdo _, h]
  | unlock =>
    show LineAt l m w (takeUnlock x s).state; unfold takeUnlock; split_ifs
    exacts [h, h, h, h, h, h.only (releaseAll_onlyAcSv s)]
  | calibrate c =>
    show LineAt l m w (takeCalibrate x c s).state; unfold takeCalibrate; (repeat' split)
    exacts [h, h, h, h, h.only (commit_onlyAcSv _ _ _)]
  | centreAll => show LineAt l m w (takeCentreAll x s).state; unfold takeCentreAll; split_ifs; exacts [h, h.only (centringOrders_onlyAcSv s)]
  | hold mode => show LineAt l m w (takeHold x mode s).state; unfold takeHold; (repeat' split); exacts [h, h, h.setSv _]
  | resume =>
    show LineAt l m w (takeResume x s).state; unfold takeResume; split_ifs
    exacts [h, (h.setSv _).only (resumeAll_onlyAcSv _)]
  | clearFaults =>
    show LineAt l m w (takeClearFaults x s).state; unfold takeClearFaults; split_ifs
    · exact h
    · exact h
    · have cleared := LineAt.eachChannel (fun k _ h => h.only (clearChannel_onlyAcSv k _)) h
      exact (clearTachos_line cleared).setSv _
  | setConfig q c v =>
    show LineAt l m w (takeSetConfig x q c v s).state; unfold takeSetConfig; (repeat' split)
    exacts [h, h, h, h, h, LineAt.eachChannel (fun k _ h => refit_line h _ k) (h.setCt rfl)]
  | setGain g => show LineAt l m w (takeSetGain x g s).state; unfold takeSetGain; split_ifs; exacts [h, h.setCt rfl]
  | sleep => exact modeChange .sleep
  | restart => exact modeChange .restart
  | readStatus => exact read _
  | readPosition => exact read _
  | readChannel c => exact read _
  | readWindow i => exact read _
  | readFaults i => exact read _
  | badLength n => exact h
  | unknownKind n => exact h

theorem judge_line (h : LineAt l m w s) (x : Master) (req : Request) : LineAt l m w (judge x req s).state := by
  unfold judge; (repeat' split)
  exacts [h, h, ownerTakes_line h x req]

/-! ### The service -/

/-- The end of a service frees the line interface, or puts it to sleep (R171, R191). -/
theorem endService_line (h : LineAt l m w s) : LineAt { l with service := none } m w (endService s) ∨
    LineAt { l with service := none }.asleep .sleep w (endService s) := by
  have ended : LineAt { l with service := none } m w (s.setLi { s.li with service := none }) :=
    ⟨by rw [← h.li]; rfl, h.mode, h.power⟩
  unfold endService applyPendingMode; split
  exacts [.inl ended, .inl (restartEffects_line ended), .inr (sleepEntry_line ended)]

/-- A dispatch leaves the queue; it leaves a frame in service that has no reply yet, or none; or the part sleeps. -/
theorem dispatch_line (h : LineAt l m w s) (hs : l.service = none) (f : QFrame) :
    (∃ v : Service, v.reply = none ∧ LineAt { l with service := some v } m w (dispatch f s)) ∨
      LineAt l m w (dispatch f s) ∨ LineAt l.asleep .sleep w (dispatch f s) := by
  have judged := judge_line h f.hdr.src f.req
  have free : { l with service := none } = l := by rw [← hs]
  unfold dispatch; dsimp only; split
  · exact .inr (.inl judged)
  · generalize judge f.hdr.src f.req s = t at judged
    have served : LineAt { l with service := some ⟨f.hdr, f.req, f.age, t.result, t.items, none⟩ } m w
        (t.state.setLi { t.state.li with service := some ⟨f.hdr, f.req, f.age, t.result, t.items, none⟩ }) :=
      ⟨by rw [← judged.li]; rfl, judged.mode, judged.power⟩
    split_ifs
    · rcases endService_line served with he | he <;> dsimp only at he <;> rw [free] at he
      exacts [.inr (.inl he), .inr (.inr he)]
    · exact .inl ⟨_, rfl, served⟩

end

end Sys2Proof.Machine

/-! # What a service and the operating modes keep -/

namespace Sys2Proof.Machine

/-- What a run of requests keeps, within the table that stands. -/
def Kept (p : Scope) (s₀ s : State) : Prop := Told (p.within s.ct.table) s₀ s

section

variable {p : Scope} {s₀ s : State} {k : Chan} {T : ConfigTable}

theorem Told.kept (h : Told (p.within T) s₀ s) : Kept p s₀ s := by
  have ht : s.ct.table = T := h.table
  unfold Kept; rw [ht]; exact h

theorem Told.fitted_eq (h : Told (p.within T) s₀ s) (k : Chan) : fitted s k = T.fitted k := by
  have ht : s.ct.table = T := h.table
  rw [fitted, ht]

theorem Told.present (h : Told (p.within T) s₀ s) (hp : p.requests) (hf : fitted s k = true) :
    (s.ac.get k).state ≠ .absent := fun ha => by
  have := (h.absent hp k).1 ha
  exact absurd ((h.fitted_eq k).symm.trans hf) (by rw [show T.fitted k = false from this]; nofun)

theorem Told.setLi (h : Told p s₀ s) {v : Li} (ho : v.ones ≤ 20) (hq : v.queue.length ≤ 3) : Told p s₀ (s.setLi v) :=
  { h with ones := ho, queue := hq }

theorem Kept.setLi (h : Kept p s₀ s) {v : Li} (ho : v.ones ≤ 20) (hq : v.queue.length ≤ 3) : Kept p s₀ (s.setLi v) :=
  Told.setLi h ho hq

/-- A change of the Configuration Table's block that leaves the table. -/
theorem Told.setCt (h : Told p s₀ s) {v : Ct} (hv : v.table = s.ct.table) (hg : v.gain ≤ 100)
    (ha : AuthorityInv (s.setCt v)) : Told p s₀ (s.setCt v) :=
  { h with
    authority := ha
    config := ⟨fun q => by rw [State.setCt_ct, hv]; exact h.config.1 q, hg⟩
    table := hv.trans h.table
    derived := fun hd => derived_congr (h.derived hd) rfl fun k => by rw [State.setCt_ct, hv] }

/-! ### The modes -/

theorem closeWindow_aa (s : State) : (closeWindow s).aa = s.aa := by
  have unplaced (t : State) : (unplace t).aa = t.aa := by unfold unplace; dsimp only; split_ifs <;> rfl
  exact ((reportRoute_onlySv _).2.2.1).trans (unplaced _)

theorem sleepChannel_onlyAcSv (k : Chan) (s : State) : OnlyAcSv s (sleepChannel k s) := by
  unfold sleepChannel; dsimp only; split_ifs
  exacts [(inactiveIfFaulted_onlyAcSv k s).trans (commit_onlyAcSv k _ _), .refl s]

theorem eachSleepChannel_onlyAcSv (s : State) : OnlyAcSv s (eachChannel sleepChannel s) :=
  (((sleepChannel_onlyAcSv .c1 s).trans (sleepChannel_onlyAcSv .c2 _)).trans (sleepChannel_onlyAcSv .c3 _)).trans
    (sleepChannel_onlyAcSv .c4 _)

theorem Channel.InRange.restedStill {raw : Prop} {n : Nat} {ch : Channel} (h : ch.InRange raw n) (m : Nat) :
    ({ ch.rested with conv := .none } : Channel).InRange raw m := { h.rested m with }

theorem rested_still_atMost (ch : Channel) (n : Nat) : ({ ch.rested with conv := .none } : Channel).TimersAtMost n :=
  ⟨nofun, nofun, nofun, nofun⟩

theorem sleepChannel_told (h : Told (p.within T) s₀ s) (hp : p.requests) : Told (p.within T) s₀ (sleepChannel k s) := by
  unfold sleepChannel; dsimp only; split_ifs with hf
  · have ended := inactiveIfFaulted_told (k := k) h
    refine ended.order ((ended.inRange k).restedStill _) (rested_still_atMost _ _) ?_ nofun nofun
    rw [inactiveIfFaulted_ac]; exact h.present hp hf
  · exact h

theorem restartChannel_told (h : Told (p.within T) s₀ s) (hp : p.requests) : Told (p.within T) s₀ (restartChannel k s) := by
  unfold restartChannel; dsimp only; split_ifs with hf
  · have ended := inactiveIfFaulted_told (k := k) h
    refine ended.order ((ended.inRange k).rested _).toHoming (Channel.toHoming_atMost _ _) ?_ nofun nofun
    rw [inactiveIfFaulted_ac]; exact h.present hp hf
  · exact h

theorem eachChannel_told {f : Chan → State → State} (hf : ∀ k {s}, Told p s₀ s → Told p s₀ (f k s)) (h : Told p s₀ s) :
    Told p s₀ (eachChannel f s) := hf _ (hf _ (hf _ (hf _ h)))

theorem ssRec_reset_inRange : SsRec.reset.InRange := ⟨Nat.zero_le _, Nat.zero_le _⟩

/-- The record of a channel that is not fitted changes without a report (R29). -/
theorem Told.recordUnseen (h : Told p s₀ s) {r : SsRec} (hr : r.InRange) (hk : p.fit k = false) :
    Told p s₀ (s.setSs (s.ss.set k r)) := by
  refine { h with records := fun j => ?_, sources := fun j hj => ?_ }
  · by_cases hjk : j = k
    · subst hjk; rw [State.setSs_ss, Quad.get_set_self]; exact hr
    · rw [State.setSs_ss, Quad.get_set_ne _ _ hjk]; exact h.records j
  · have hjk : j ≠ k := by rintro rfl; exact absurd (hj.symm.trans hk) nofun
    rw [State.setSs_ss, Quad.get_set_ne _ _ hjk]; exact h.sources j hj

theorem resetRecord_told (h : Told p s₀ s) (hf : p.fit k = fitted s k) : Told p s₀ (resetRecord k s) := by
  unfold resetRecord; dsimp only; split_ifs with hk
  · exact h.record ssRec_reset_inRange
  · exact h.recordUnseen ssRec_reset_inRange (hf.trans (Bool.eq_false_iff.2 hk))

theorem resetRecords_told (h : Told (p.within T) s₀ s) : Told (p.within T) s₀ (resetRecords s) :=
  eachChannel_told (fun k _ h => resetRecord_told h (h.fitted_eq k).symm) h

theorem asleep_inRange {o : Odo} (h : o.InRange) : o.asleep.InRange :=
  { h with told := ⟨nofun, nofun⟩, disagree := Nat.zero_le _, agree := Nat.zero_le _, failure1 := Nat.succ_pos 24
           failure2 := Nat.succ_pos 24 }

theorem sleepEntry_told (h : Told (p.within T) s₀ s) (hp : p.requests) : Told (p.within T) s₀ (sleepEntry s) := by
  have quiet : Told (p.within T) s₀ ((((s.setLi s.li.asleep).setAa Aa.reset).setOdo s.odo.asleep).setPath Path.empty) :=
    { h with
      authority := authorityInv_of_reset rfl
      odo := fun hs => asleep_inRange (h.odo hs)
      hands := fun _ hh => absurd hh List.not_mem_nil
      ones := Nat.zero_le _
      queue := Nat.zero_le _ }
  have closed := eachChannel_told (fun k _ h => sleepChannel_told (k := k) h hp) (closeWindow_told quiet)
  have vacant : (eachChannel sleepChannel (closeWindow
      ((((s.setLi s.li.asleep).setAa Aa.reset).setOdo s.odo.asleep).setPath Path.empty))).aa = Aa.reset :=
    (eachSleepChannel_onlyAcSv _).2.2.1.trans (closeWindow_aa _)
  unfold sleepEntry; dsimp only
  generalize eachChannel sleepChannel (closeWindow
      ((((s.setLi s.li.asleep).setAa Aa.reset).setOdo s.odo.asleep).setPath Path.empty)) = u at closed vacant ⊢
  exact (closed.setHold .none).setCt rfl le_rfl (authorityInv_of_reset vacant)

theorem restartEffects_told (h : Told (p.within T) s₀ s) (hp : p.requests) : Told (p.within T) s₀ (restartEffects s) := by
  have vacated : Told (p.within T) s₀ (s.setAa Aa.reset) := h.setAa (authorityInv_of_reset rfl)
  have restarted := eachChannel_told (fun k _ h => restartChannel_told (k := k) h hp)
    (resetRecords_told (closeWindow_told vacated))
  unfold restartEffects; dsimp only
  generalize eachChannel restartChannel (resetRecords (closeWindow (s.setAa Aa.reset))) = u at restarted ⊢
  exact (restarted.setHold .none).setCt rfl le_rfl restarted.authority

theorem endService_told (h : Told (p.within T) s₀ s) (hp : p.requests) : Told (p.within T) s₀ (endService s) := by
  have freed : Told (p.within T) s₀ (s.setLi { s.li with service := none }) := h.setLi h.ones h.queue
  unfold endService applyPendingMode; split
  exacts [freed, restartEffects_told freed hp, sleepEntry_told freed hp]

theorem wake_told (h : Told (p.within T) s₀ s) : Told (p.within T) s₀ (wake s) := by
  refine .ite (resetRecords_told ?_) h
  exact { h with
    authority := authorityInv_of_reset rfl
    odo := fun hs => { asleep_inRange (h.odo hs) with }
    ones := Nat.zero_le _ }

theorem homeChannel_told (h : Told p s₀ s) (hq : ¬p.requests) : Told p s₀ (homeChannel k s) :=
  .ite (h.eventHere hq (h.inRange k).toHoming (Channel.toHoming_atMost _ _) nofun nofun) h

theorem stabilisationExpiry_told (h : Told p s₀ s) (hq : ¬p.requests) : Told p s₀ (stabilisationExpiry s) := by
  unfold stabilisationExpiry; split
  · obtain ⟨hform, -, hpres⟩ := h.authority
    exact eachChannel_told (fun k _ h => homeChannel_told h hq)
      { h with authority := ⟨hform, fun hn => absurd rfl hn, hpres⟩ }
  · exact h

/-! ### A request at its owner -/

theorem takeSetConfig_kept (h : Kept p s₀ s) (hp : p.requests) (hd : p.derived) (m : Master) (param channel : Nat) (v : Int) :
    Kept p s₀ (takeSetConfig m param channel v s).state := by
  unfold takeSetConfig
  split
  · exact h
  · split
    · exact h
    · split
      · exact h
      · rename_i q _
        split_ifs with hv
        · exact h
        · exact h
        · exact (storeConfig_told h hp hd (by simpa using hv)).kept

theorem ownerTakes_kept (h : Kept p s₀ s) (hp : p.requests) (hd : p.derived) (hrun : s.ct.mode = .run)
    (hx : p.exact → s.sv.shortfall = s₀.sv.shortfall) (m : Master) (req : Request) :
    Kept p s₀ (ownerTakes m req s).state := by
  have read (ok : Bool) : Kept p s₀ (takeRead ok s).state := by unfold takeRead; split_ifs <;> exact h
  cases req with
  | claim => exact (takeClaim_told h hrun m).kept
  | release => exact (takeRelease_told h m).kept
  | offer target => exact (takeOffer_told h hrun m target).kept
  | accept => exact (takeAccept_told h m).kept
  | openRoute f => exact (takeOpenRoute_told h hx m f).kept
  | appendSegment f => exact (takeAppendSegment_told h m f).kept
  | closeRoute => exact (takeCloseRoute_told h m).kept
  | place rRef u => exact (takePlace_told h hx m rRef u).kept
  | speedReference v flags => exact (takeSpeedReference_told h m v flags).kept
  | unlock => exact (takeUnlock_told h m).kept
  | calibrate c => exact (takeCalibrate_told h m c).kept
  | centreAll => exact (takeCentreAll_told h m).kept
  | hold mode => exact (takeHold_told h m mode).kept
  | resume => exact (takeResume_told h m).kept
  | clearFaults => exact (takeClearFaults_told h hp m).kept
  | setConfig q c v => exact takeSetConfig_kept h hp hd m q c v
  | setGain g => exact (takeSetGain_told h m g).kept
  | sleep => exact (takeModeChange_told h m .sleep).kept
  | restart => exact (takeModeChange_told h m .restart).kept
  | readStatus => exact read _
  | readPosition => exact read _
  | readChannel c => exact read _
  | readWindow i => exact read _
  | readFaults i => exact read _
  | badLength n => exact h
  | unknownKind n => exact h

/-- The judgement of a read request changes nothing (R171, R172). -/
theorem ownerTakes_read {req : Request} {kind : Kind} (hk : req.kind = some kind) (hr : kind.isRead = true) (m : Master)
    (s : State) : (ownerTakes m req s).state = s := by
  have read (ok : Bool) : (takeRead ok s).state = s := by unfold takeRead; split_ifs <;> rfl
  cases req <;> cases hk
  case readStatus => exact read _
  case readPosition => exact read _
  case readChannel => exact read _
  case readWindow => exact read _
  case readFaults => exact read _
  case badLength => rfl
  all_goals exact absurd hr nofun

theorem judge_kept (h : Kept p s₀ s) (hp : p.requests) (hd : p.derived) (hm : s.ct.mode ≠ .sleep)
    (hx : p.exact → s.sv.shortfall = s₀.sv.shortfall) (m : Master) (req : Request) : Kept p s₀ (judge m req s).state := by
  unfold judge
  split
  · exact h
  · rename_i kind hkind
    split_ifs with hw
    · exact h
    · cases hmode : s.ct.mode with
      | run => exact ownerTakes_kept h hp hd hmode hx m req
      | sleep => exact absurd hmode hm
      | waking =>
        rw [ownerTakes_read hkind (by_contra fun hr => hw ⟨hmode, hr⟩)]; exact h

theorem dispatch_kept (h : Kept p s₀ s) (hp : p.requests) (hd : p.derived) (hm : s.ct.mode ≠ .sleep)
    (hx : p.exact → s.sv.shortfall = s₀.sv.shortfall) (f : QFrame) : Kept p s₀ (dispatch f s) := by
  have judged := judge_kept h hp hd hm hx f.hdr.src f.req
  unfold dispatch; dsimp only; split
  · exact judged
  · generalize judge f.hdr.src f.req s = t at judged
    have served : Kept p s₀ (t.state.setLi { t.state.li with
        service := some ⟨f.hdr, f.req, f.age, t.result, t.items, none⟩ }) := judged.setLi judged.ones judged.queue
    split_ifs
    exacts [(endService_told served hp).kept, served]

/-! ### The Line Interface -/

/-- The Line Interface of a part that is on, but for a queue that may wait for the end of a service (R164, R167, R170, R171,
R180). -/
structure LineOk (l : Li) (m : Mode) : Prop where
  depth : l.queue.length ≤ 3
  asleep : m = .sleep → l.service = none ∧ l.queue = []
  stopped : l.receiver = .stopped ↔ m = .sleep ∨ (l.service.bind fun v => v.reply).isSome = true
  receiving : l.receiver = .receiving → l.inFrame = true
  inFrame : l.inFrame = true → l.line = .busy ∧ l.ones = 0
  waiting : l.receiver = .waiting → l.line = .busy

theorem lineInv_iff : LineInv s ↔ (s.power = .on → LineOk s.li s.ct.mode ∧ (s.li.service = none → s.li.queue = [])) := by
  unfold LineInv
  refine forall_congr' fun _ => ⟨?_, ?_⟩
  · rintro ⟨h1, h2, h3, h4, h5, h6, h7⟩
    exact ⟨⟨h2, fun hm => ⟨h3 hm, h1 (h3 hm)⟩, h4, h5, h6, h7⟩, h1⟩
  · rintro ⟨⟨h2, h3, h4, h5, h6, h7⟩, h1⟩
    exact ⟨h1, h2, fun hm => (h3 hm).1, h4, h5, h6, h7⟩

theorem LineOk.served {l : Li} {m : Mode} (h : LineOk l m) (hm : m ≠ .sleep) (hs : l.service = none) {v : Service}
    (hv : v.reply = none) : LineOk { l with service := some v } m :=
  { h with
    asleep := fun hsl => absurd hsl hm
    stopped := h.stopped.trans (by simp [hm, hs, hv]) }

theorem LineOk.slept {l : Li} {m : Mode} (_h : LineOk l m) : LineOk l.asleep .sleep :=
  ⟨Nat.zero_le _, fun _ => ⟨rfl, rfl⟩, ⟨fun _ => .inl rfl, fun _ => rfl⟩, nofun, nofun, nofun⟩

/-- The end of a service whose reply is over, or has never started. -/
theorem LineOk.freed {l : Li} {m : Mode} (h : LineOk l m) (hr : (l.service.bind fun v => v.reply).isSome = true →
    l.receiver ≠ .stopped) (hm : m ≠ .sleep) : LineOk { l with service := none } m :=
  { h with
    asleep := fun hsl => absurd hsl hm
    stopped := ⟨fun hst => by
        rcases h.stopped.1 hst with hsl | hrep
        exacts [.inl hsl, absurd hst (hr hrep)], fun hor => hor.elim (fun hsl => absurd hsl hm) nofun⟩ }

/-- What the serving of the queue does to the line (R171). -/
structure Serves (s t : State) : Prop where
  ok : LineOk t.li t.ct.mode
  line : t.li.line = s.li.line
  power : t.power = s.power

theorem serveUpTo_serves (n : Nat) (hl : LineOk s.li s.ct.mode) : Serves s (serveUpTo n s) ∧
    (s.li.queue.length ≤ n → (serveUpTo n s).li.service = none → (serveUpTo n s).li.queue = []) := by
  induction n generalizing s with
  | zero => exact ⟨⟨hl, rfl, rfl⟩, fun hq _ => List.eq_nil_of_length_eq_zero (Nat.le_zero.1 hq)⟩
  | succ n ih =>
    unfold serveUpTo; split
    · rename_i f rest hs hq
      have hm : s.ct.mode ≠ .sleep := fun hm => by
        have := (hl.asleep hm).2
        rw [hq] at this; exact absurd this (List.cons_ne_nil f rest)
      have taken : LineOk { s.li with queue := rest } s.ct.mode :=
        { hl with depth := by have := hl.depth; rw [hq] at this; exact Nat.le_of_succ_le this
                  asleep := fun hsl => absurd hsl hm }
      have rests : rest.length ≤ n ↔ s.li.queue.length ≤ n + 1 := by rw [hq]; simp
      have next {l : Li} {m : Mode} {t : State} (ht : LineAt l m s.power t) (hok : LineOk l m) (hline : l.line = s.li.line)
          (hlen : l.queue.length ≤ rest.length) : Serves s (serveUpTo n t) ∧
            (s.li.queue.length ≤ n + 1 → (serveUpTo n t).li.service = none → (serveUpTo n t).li.queue = []) := by
        obtain ⟨hserves, hempty⟩ := ih (s := t) (by rw [ht.li, ht.mode]; exact hok)
        refine ⟨⟨hserves.ok, hserves.line.trans (by rw [ht.li, hline]), hserves.power.trans ht.power⟩, fun hn => hempty ?_⟩
        rw [ht.li]; exact hlen.trans (rests.2 hn)
      have start : LineAt { s.li with queue := rest } s.ct.mode s.power (s.setLi { s.li with queue := rest }) := ⟨rfl, rfl, rfl⟩
      rcases dispatch_line start hs f with ⟨v, hv, hd⟩ | hd | hd
      · exact next hd (taken.served hm hs hv) rfl le_rfl
      · exact next hd taken rfl le_rfl
      · exact next hd taken.slept rfl (Nat.zero_le _)
    · rename_i hno
      refine ⟨⟨hl, rfl, rfl⟩, fun _ hs => ?_⟩
      cases hq : s.li.queue with
      | nil => rfl
      | cons f rest => exact absurd hq (fun hq => hno f rest hs hq)

theorem serve_lineInv (hl : LineOk s.li s.ct.mode) : LineInv (serve s) ∧ (serve s).li.line = s.li.line := by
  obtain ⟨hs, hq⟩ := serveUpTo_serves s.li.queue.length hl
  exact ⟨lineInv_iff.2 fun _ => ⟨hs.ok, hq le_rfl⟩, hs.line⟩

/-- The serving of the queue keeps what requests keep, where no report has to bear the last position. -/
theorem serveUpTo_kept (n : Nat) (h : Kept p s₀ s) (hp : p.requests) (hd : p.derived) (hx : ¬p.exact)
    (hl : LineOk s.li s.ct.mode) : Kept p s₀ (serveUpTo n s) := by
  induction n generalizing s with
  | zero => exact h
  | succ n ih =>
    unfold serveUpTo; split
    · rename_i f rest hs hq
      have hm : s.ct.mode ≠ .sleep := fun hm => by
        have := (hl.asleep hm).2
        rw [hq] at this; exact absurd this (List.cons_ne_nil f rest)
      have hlen : rest.length ≤ 3 := by have := hl.depth; rw [hq] at this; exact Nat.le_of_succ_le this
      have taken : LineOk { s.li with queue := rest } s.ct.mode :=
        { hl with depth := hlen, asleep := fun hsl => absurd hsl hm }
      have kept := dispatch_kept (s := s.setLi { s.li with queue := rest }) (h.setLi h.ones hlen) hp hd hm
        (fun he => absurd he hx) f
      have start : LineAt { s.li with queue := rest } s.ct.mode s.power (s.setLi { s.li with queue := rest }) := ⟨rfl, rfl, rfl⟩
      refine ih kept ?_
      rcases dispatch_line start hs f with ⟨v, hv, hd⟩ | hd | hd <;> rw [hd.li, hd.mode]
      exacts [taken.served hm hs hv, taken, taken.slept]
    · exact h

end

end Sys2Proof.Machine

/-! # The line through every command (R164 to R173, R180) -/

namespace Sys2Proof.Machine

/-- A command on a part whose Line Interface is in order leaves it so, and frees the line at no moment but LINE_FREE. -/
structure Lines (s t : State) : Prop where
  inv : LineInv t
  line : t.li.line = .busy ∨ t.li.line = s.li.line

section

variable {s t : State} {k : Chan}

theorem Lines.refl (h : LineInv s) : Lines s s := ⟨h, .inr rfl⟩

theorem Lines.of_off (h : t.power ≠ .on) (hl : t.li.line = s.li.line) : Lines s t := ⟨fun hon => absurd hon h, .inr hl⟩

/-- An operation that leaves the Line Interface, the mode and the power. -/
theorem LineAt.lines (ht : LineAt s.li s.ct.mode s.power t) (h : LineInv s) : Lines s t := by
  refine ⟨?_, .inr (by rw [ht.li])⟩
  unfold LineInv at h ⊢
  rw [ht.li, ht.mode, ht.power]; exact h

theorem Lines.serve {u : State} (hl : LineOk u.li u.ct.mode) (hu : u.li.line = .busy ∨ u.li.line = s.li.line) :
    Lines s (serve u) := by
  obtain ⟨hinv, hline⟩ := serve_lineInv hl
  exact ⟨hinv, by rw [hline]; exact hu⟩

/-- The Line Interface of a part that is on. -/
theorem lineOk (h : LineInv s) (hon : s.power = .on) : LineOk s.li s.ct.mode ∧ (s.li.service = none → s.li.queue = []) :=
  lineInv_iff.1 h hon

theorem Lines.of_ok (hl : LineOk t.li t.ct.mode) (hq : t.li.service = none → t.li.queue = [])
    (hline : t.li.line = .busy ∨ t.li.line = s.li.line) : Lines s t := ⟨lineInv_iff.2 fun _ => ⟨hl, hq⟩, hline⟩

theorem Receiver.runs_iff {r : Receiver} : r.runs = true ↔ r = .hunting ∨ r = .receiving := by cases r <;> simp [Receiver.runs]

theorem Receiver.not_runs_iff {r : Receiver} : r.runs = false ↔ r = .waiting ∨ r = .stopped := by
  cases r <;> simp [Receiver.runs]

/-- A receiver that runs is that of a part awake and not replying. -/
theorem LineOk.awake {l : Li} {m : Mode} (h : LineOk l m) (hr : l.receiver ≠ .stopped) :
    m ≠ .sleep ∧ (l.service.bind fun v => v.reply).isSome = false := by
  constructor
  · exact fun hm => hr (h.stopped.2 (.inl hm))
  · exact Bool.eq_false_iff.2 fun hs => hr (h.stopped.2 (.inr hs))

/-- A flag on the line, where the receiver goes to a state that fits. -/
theorem LineOk.flagged {l : Li} {m : Mode} (h : LineOk l m) {r : Receiver} {inFrame : Bool}
    (hr : r = .stopped ↔ l.receiver = .stopped) (hf : r = .receiving → inFrame = true) : LineOk (l.flag r inFrame) m :=
  { depth := h.depth, asleep := h.asleep, stopped := hr.trans h.stopped, receiving := hf
    inFrame := fun _ => ⟨rfl, rfl⟩, waiting := fun _ => rfl }

/-! ### Frames received -/

theorem enqueue_lineOk {l : Li} {m : Mode} (h : LineAt l m .on s) (hl : LineOk l m) (hm : m ≠ .sleep) (hdr : Hdr)
    (req : Request) : LineOk (enqueue hdr req s).li (enqueue hdr req s).ct.mode ∧
      (enqueue hdr req s).li.line = l.line := by
  rw [← h.li, ← h.mode] at hl
  rw [← h.mode] at hm
  rw [← h.li]
  unfold enqueue; split_ifs with hq
  · refine ⟨{ hl with depth := ?_, asleep := fun hs => absurd hs hm }, rfl⟩
    show (s.li.queue ++ [_]).length ≤ 3
    rw [List.length_append]
    exact hq
  · exact ⟨{ hl with }, rfl⟩

theorem acceptFrame_lines {l : Li} {m : Mode} (h : LineAt l m .on t) (hl : LineOk l m) (hm : m ≠ .sleep)
    (hq : l.service = none → l.queue = []) (hline : l.line = .busy) (hdr : Hdr) (req : Request) :
    Lines s (acceptFrame hdr req t) := by
  have present : LineAt l m .on (presenceReload hdr.src t) := h.setAa _
  unfold acceptFrame; dsimp only; split_ifs
  · obtain ⟨hok, hb⟩ := enqueue_lineOk present hl hm hdr req
    exact .serve hok (.inl (hb.trans hline))
  · refine .of_ok ?_ ?_ (.inl ?_)
    · rw [present.li, present.mode]; exact hl
    · rw [present.li]; exact hq
    · rw [present.li]; exact hline

theorem closeReception_lineAt (hon : s.power = .on) :
    LineAt (s.li.flag .hunting false) s.ct.mode .on (closeReception s) := ⟨rfl, rfl, hon⟩

theorem noteFlag_lines (h : LineInv s) (hon : s.power = .on) (hr : s.li.receiver.runs = false) (b : Bool) :
    Lines s (noteFlag b s) := by
  obtain ⟨hl, hq⟩ := lineOk h hon
  unfold noteFlag; split_ifs
  · exact .refl h
  · refine .of_ok (t := s.setLi _) (hl.flagged Iff.rfl fun hrec => ?_) hq (.inl rfl)
    rw [hrec] at hr; exact absurd hr nofun

theorem closed_lineOk (h : LineInv s) (hon : s.power = .on) (hr : s.li.receiver ≠ .stopped) :
    LineOk (s.li.flag .hunting false) s.ct.mode :=
  (lineOk h hon).1.flagged ⟨nofun, fun hs => absurd hs hr⟩ nofun

theorem receiveRequest_lines (h : LineInv s) (hon : s.power = .on) (hdr : Hdr) (req : Request) :
    Lines s (receiveRequest hdr req s) := by
  obtain ⟨hl, hq⟩ := lineOk h hon
  unfold receiveRequest; split_ifs with hr
  · have hns : s.li.receiver ≠ .stopped := by rcases Receiver.runs_iff.1 hr with hr | hr <;> rw [hr] <;> nofun
    exact acceptFrame_lines (closeReception_lineAt hon) (closed_lineOk h hon hns) (hl.awake hns).1 hq rfl hdr req
  · exact noteFlag_lines h hon (by simpa using hr) _

theorem frameClosed_lines (h : LineInv s) (hon : s.power = .on) (bits : List Bool) : Lines s (frameClosed bits s) := by
  obtain ⟨hl, hq⟩ := lineOk h hon
  have opened (hr : s.li.receiver ≠ .stopped) : Lines s (s.setLi (s.li.flag .receiving true)) :=
    .of_ok (t := s.setLi _) (hl.flagged ⟨nofun, fun hs => absurd hs hr⟩ fun _ => rfl) hq (.inl rfl)
  unfold frameClosed; split
  · rename_i hr; exact noteFlag_lines h hon (by rw [hr]; rfl) _
  · rename_i hr; exact noteFlag_lines h hon (by rw [hr]; rfl) _
  · rename_i hr; exact opened (by rw [hr]; nofun)
  · rename_i hr
    have hns : s.li.receiver ≠ .stopped := by rw [hr]; nofun
    have closed : Lines s (closeReception s) := .of_ok (t := s.setLi _) (closed_lineOk h hon hns) hq (.inl rfl)
    split_ifs
    · exact opened hns
    · unfold receiveBits; split
      · exact closed
      · split
        · exact closed
        · exact acceptFrame_lines (closeReception_lineAt hon) (closed_lineOk h hon hns) (hl.awake hns).1 hq rfl _ _

theorem frameAbort_lines (h : LineInv s) (hon : s.power = .on) : Lines s (frameAbort s) := by
  obtain ⟨hl, hq⟩ := lineOk h hon
  have aborted (r : Receiver) (hr : r = .stopped ↔ s.li.receiver = .stopped) (hrec : r ≠ .receiving)
      (hw : r = .waiting → s.li.line = .busy) : Lines s (s.setLi (s.li.aborted r)) :=
    .of_ok (t := s.setLi _) { depth := hl.depth, asleep := hl.asleep, stopped := hr.trans hl.stopped
                              receiving := fun h => absurd h hrec, inFrame := nofun, waiting := hw } hq (.inr rfl)
  unfold frameAbort; split
  · rename_i hr; exact aborted _ (by simp [hr]) nofun nofun
  · rename_i hr
    split_ifs
    exacts [aborted _ (by simp [hr]) nofun nofun, .refl h]
  · rename_i hr
    split_ifs
    exacts [aborted _ (by simp [hr]) nofun fun _ => hl.waiting hr, .refl h]
  · rename_i hr
    exact .of_ok (t := s.setLi _) { hl with receiving := fun hrec => absurd (hr.symm.trans hrec) nofun, inFrame := nofun } hq
      (.inr rfl)

theorem openingFlag_lines (h : LineInv s) (hon : s.power = .on) : Lines s (openingFlag s) := by
  obtain ⟨hl, hq⟩ := lineOk h hon
  unfold openingFlag; split_ifs with hr
  · have hns : s.li.receiver ≠ .stopped := by rcases Receiver.runs_iff.1 hr with hr | hr <;> rw [hr] <;> nofun
    exact .of_ok (t := s.setLi _) (hl.flagged ⟨nofun, fun hs => absurd hs hns⟩ fun _ => rfl) hq (.inl rfl)
  · exact noteFlag_lines h hon (by simpa using hr) _

/-- LINE_FREE frees the line outside a frame, after 16 bit times of ones (R167). -/
theorem lineFree_lines (h : LineInv s) (hon : s.power = .on) : LineInv (lineFree s) ∧ (s.li.line = .busy →
    (lineFree s).li.line = .free → 16 ≤ s.li.ones ∧ s.li.inFrame = false ∧ (lineFree s).li.receiver = .hunting) := by
  obtain ⟨hl, hq⟩ := lineOk h hon
  unfold lineFree; split_ifs with hf
  · obtain ⟨hsees, hones⟩ := hf
    have outside : s.li.inFrame = false ∧ s.li.receiver ≠ .stopped := by
      unfold Li.seesOnes at hsees
      split at hsees <;> simp_all
    refine ⟨lineInv_iff.2 fun _ => ⟨{ hl with
      stopped := ⟨nofun, fun ho => absurd (hl.stopped.2 ho) outside.2⟩, receiving := nofun
      inFrame := fun hi => absurd (hi.symm.trans outside.1) nofun, waiting := nofun }, hq⟩, fun _ _ => ⟨hones, outside.1, rfl⟩⟩
  · exact ⟨h, fun hb hfree => absurd (hb.symm.trans hfree) nofun⟩

/-! ### Replies -/

theorem replyStart_lines (h : LineInv s) (hon : s.power = .on) : Lines s (replyStart s) := by
  obtain ⟨hl, hq⟩ := lineOk h hon
  unfold replyStart; split
  · exact .refl h
  · rename_i v hs
    dsimp only; split_ifs
    · have hm : s.ct.mode ≠ .sleep := fun hm => absurd (hs.symm.trans (hl.asleep hm).1) nofun
      exact .of_ok (t := (s.setSv _).setLi _) { depth := hl.depth, asleep := fun hsl => absurd hsl hm
                                                stopped := ⟨fun _ => .inr rfl, fun _ => rfl⟩, receiving := nofun
                                                inFrame := fun _ => ⟨rfl, rfl⟩, waiting := nofun } nofun (.inl rfl)
    · exact .refl h

/-- The queue is served once a service has ended, the line having been left so. -/
theorem endService_lines {l : Li} {m : Mode} (h : LineAt l m .on t) (hl : LineOk { l with service := none } m)
    (hline : l.line = .busy ∨ l.line = s.li.line) : Lines s (serve (endService t)) := by
  rcases endService_line h with he | he
  · exact .serve (by rw [he.li, he.mode]; exact hl) (by rw [he.li]; exact hline)
  · exact .serve (by rw [he.li, he.mode]; exact hl.slept) (by rw [he.li]; exact hline)

theorem endOfService_lines (h : LineInv s) (hon : s.power = .on) : Lines s (endOfService s) := by
  obtain ⟨hl, -⟩ := lineOk h hon
  unfold endOfService; split
  · exact .refl h
  · rename_i v hs
    split
    · exact .refl h
    · have hm : s.ct.mode ≠ .sleep := fun hm => absurd (hs.symm.trans (hl.asleep hm).1) nofun
      refine endService_lines (l := s.li.flag .hunting s.li.inFrame) (m := s.ct.mode) ⟨rfl, rfl, hon⟩ ?_ (.inl rfl)
      exact { depth := hl.depth, asleep := fun hsl => absurd hsl hm, receiving := nofun, inFrame := fun _ => ⟨rfl, rfl⟩
              waiting := nofun, stopped := ⟨nofun, fun ho => ho.elim (fun hsl => absurd hsl hm) nofun⟩ }

theorem replyDrop_lines (h : LineInv s) (hon : s.power = .on) : Lines s (replyDrop s) := by
  obtain ⟨hl, -⟩ := lineOk h hon
  unfold replyDrop; split
  · exact .refl h
  · rename_i v hs
    split_ifs with hd
    · have hm : s.ct.mode ≠ .sleep := fun hm => absurd (hs.symm.trans (hl.asleep hm).1) nofun
      have hnone : v.reply = none := by simpa using hd.1
      exact endService_lines (l := s.li) (m := s.ct.mode) ⟨rfl, rfl, hon⟩
        (hl.freed (fun hr => by rw [hs] at hr; simp [hnone] at hr) hm) (.inr rfl)
    · exact .refl h

/-! ### Modes, supply and time -/

theorem wake_lines (h : LineInv s) (hon : s.power = .on) : Lines s (wake s) := by
  obtain ⟨hl, hq⟩ := lineOk h hon
  by_cases hm : s.ct.mode = .sleep
  · have woken := wake_line (.start s) hm
    obtain ⟨hs, -⟩ := hl.asleep hm
    refine .of_ok ?_ (by rw [woken.li]; exact hq) (.inl (by rw [woken.li]))
    rw [woken.li, woken.mode]
    exact { depth := hl.depth, asleep := nofun, receiving := fun _ => rfl, inFrame := fun _ => ⟨rfl, rfl⟩, waiting := fun _ => rfl
            stopped := ⟨nofun, fun ho => ho.elim nofun fun hr => by rw [hs] at hr; exact absurd hr nofun⟩ }
  · rw [show wake s = s from if_neg hm]; exact .refl h

theorem stabilisationExpiry_lines (h : LineInv s) (hon : s.power = .on) : Lines s (stabilisationExpiry s) := by
  obtain ⟨hl, hq⟩ := lineOk h hon
  rcases stabilisationExpiry_line (.start s) with he | ⟨hm, he⟩
  · exact he.lines h
  · refine .of_ok ?_ (by rw [he.li]; exact hq) (.inr (by rw [he.li]))
    rw [he.li, he.mode]
    exact { hl with asleep := nofun, stopped := by rw [hl.stopped, hm]; simp }

theorem resetAsserted_lines (h : LineInv s) : Lines s (resetAsserted s) := by
  unfold resetAsserted; split_ifs
  exacts [.refl h, .of_off nofun rfl]

theorem supplyLoss_lines : Lines s (supplyLoss s) := .of_off nofun rfl

/-- The readings of all four channels' sensor pins (R211). -/
def pinReadings (pins : Quad SensorPins) : Quad (Contact × Centre) :=
  ⟨SensorPins.readings pins.c1, SensorPins.readings pins.c2, SensorPins.readings pins.c3, SensorPins.readings pins.c4⟩

theorem powerOnReset_lines (straps : Nat) (pins : Quad SensorPins) : Lines s (powerOnReset straps pins s) :=
  ⟨afterReset_lineInv straps (pinReadings pins), .inl rfl⟩

theorem onesAfter_le (b : Bool) (n : Nat) : onesAfter b n ≤ 20 := by
  unfold onesAfter; split_ifs
  exacts [Nat.min_le_right _ _, Nat.zero_le _]

theorem LineOk.ticked {l : Li} {m : Mode} (h : LineOk l m) : LineOk l.tick m := by
  have replies : (l.tick.service.bind fun v => v.reply) = l.service.bind fun v => v.reply := by
    cases hs : l.service <;> simp [Li.tick, hs]
  refine { depth := ?_, asleep := fun hm => ?_, stopped := ?_, receiving := h.receiving, inFrame := fun hi => ?_
           waiting := h.waiting }
  · rw [Li.tick, List.length_map]; exact h.depth
  · obtain ⟨hs, hq⟩ := h.asleep hm
    simp [Li.tick, hs, hq]
  · rw [replies]; exact h.stopped
  · obtain ⟨hb, ho⟩ := h.inFrame hi
    have hi : l.inFrame = true := hi
    have hsees : l.seesOnes = false := by unfold Li.seesOnes; split <;> simp [hi]
    refine ⟨hb, ?_⟩
    rw [Li.tick, hsees]; exact ho

theorem tick_lines (h : LineInv s) (hon : s.power = .on) : Lines s (tick s) := by
  obtain ⟨hl, hq⟩ := lineOk h hon
  refine .of_ok hl.ticked (fun hs => ?_) (.inr rfl)
  have hs : s.li.service = none := by
    have : s.li.service.map _ = none := hs
    simpa using this
  have hm : (tick s).li.queue = s.li.queue.map fun f => { f with age := ageFrame f.age } := rfl
  rw [hm, hq hs]; rfl

end

/-! ### Every command -/

/-- Every command keeps the Line Interface in order, and frees the line at LINE_FREE alone. -/
def KeepsLine (c : Instr) : Prop := ∀ s t, LineInv s → exec c s = .next t → LineInv t ∧ (s.li.line = .busy →
  t.li.line = .free → 16 ≤ s.li.ones ∧ s.li.inFrame = false ∧ t.li.receiver = .hunting)

namespace KeepsLine

theorem of_lines {s t : State} (h : Lines s t) : LineInv t ∧ (s.li.line = .busy → t.li.line = .free →
    16 ≤ s.li.ones ∧ s.li.inFrame = false ∧ t.li.receiver = .hunting) := by
  refine ⟨h.inv, fun hb hf => ?_⟩
  rcases h.line with hl | hl
  exacts [absurd (hl.symm.trans hf) nofun, absurd (hb.symm.trans (hl.symm.trans hf)) nofun]

theorem of_effect {c : Instr} {f : State → State} (hf : ∀ {s}, LineInv s → Lines s (f s))
    (he : ∀ s, exec c s = .next (f s) := by intro _; rfl) : KeepsLine c := by
  intro s t h ht
  rw [← Host.Outcome.next.inj ((he s).symm.trans ht)]
  exact of_lines (hf h)

theorem whenOn_lines {f : State → State} {s : State} (hf : s.power = .on → Lines s (f s)) (h : LineInv s) :
    Lines s (whenOn s f) := by
  by_cases hon : s.power = .on
  · rw [whenOn_on hon]; exact hf hon
  · rw [whenOn_off hon]; exact .refl h

theorem of_event {c : Instr} {f : State → State} (hf : ∀ {s}, LineInv s → s.power = .on → Lines s (f s))
    (he : ∀ s, exec c s = runEvent f s := by intro _; rfl) : KeepsLine c :=
  of_effect (fun h => whenOn_lines (hf h) h) he

/-- An event of another block. -/
theorem of_lineAt {c : Instr} {f : State → State} (hf : ∀ s, LineAt s.li s.ct.mode s.power (f s))
    (he : ∀ s, exec c s = runEvent f s := by intro _; rfl) : KeepsLine c := of_event (fun h _ => (hf _).lines h) he

theorem of_request {c : Instr} (h : Hdr) (req : Request) (he : ∀ s, exec c s = runRequest h req s := by intro _; rfl) :
    KeepsLine c := of_event (fun hl hon => receiveRequest_lines hl hon h req) he

theorem of_lineFree : KeepsLine .lineFree := by
  intro s t h ht
  rw [← Host.Outcome.next.inj (show Host.Outcome.next (whenOn s lineFree) = .next t from ht)]
  by_cases hon : s.power = .on
  · rw [whenOn_on hon]; exact lineFree_lines h hon
  · rw [whenOn_off hon]; exact of_lines (.refl h)

end KeepsLine

open KeepsLine in
theorem exec_keepsLine (c : Instr) : KeepsLine c := by
  cases c with
  | openRoute h f => exact of_request h (.openRoute f)
  | appendSegment h f => exact of_request h (.appendSegment f)
  | closeRoute h => exact of_request h .closeRoute
  | speedReference h v flags => exact of_request h (.speedReference v flags)
  | place h rRef u => exact of_request h (.place rRef u)
  | unlock h => exact of_request h .unlock
  | centreAll h => exact of_request h .centreAll
  | calibrate h channel => exact of_request h (.calibrate channel)
  | hold h mode => exact of_request h (.hold mode)
  | resume h => exact of_request h .resume
  | claim h => exact of_request h .claim
  | release h => exact of_request h .release
  | offer h target => exact of_request h (.offer target)
  | accept h => exact of_request h .accept
  | readStatus h => exact of_request h .readStatus
  | readPosition h => exact of_request h .readPosition
  | readChannel h channel => exact of_request h (.readChannel channel)
  | readWindow h position => exact of_request h (.readWindow position)
  | readFaults h position => exact of_request h (.readFaults position)
  | setConfig h param channel value => exact of_request h (.setConfig param channel value)
  | setGain h gain => exact of_request h (.setGain gain)
  | sleep h => exact of_request h .sleep
  | restart h => exact of_request h .restart
  | clearFaults h => exact of_request h .clearFaults
  | frameClosed bits => exact of_event (frameClosed_lines · · bits)
  | frameAbort => exact of_event frameAbort_lines
  | lineFree => exact of_lineFree
  | replyStart => exact of_event replyStart_lines
  | endOfService => exact of_event endOfService_lines
  | replyDrop => exact of_event replyDrop_lines
  | wake => exact of_event wake_lines
  | resetAsserted => exact of_effect resetAsserted_lines
  | powerOnReset straps pins => exact of_effect fun _ => powerOnReset_lines straps pins
  | stabilisationTimerExpiry => exact of_event stabilisationExpiry_lines
  | frameTimerExpiry => exact of_lineAt fun s => frameTimerExpiry_line (.start s)
  | tachoFailed x => exact of_lineAt fun s => tachoFailed_line (.start s) x
  | tachoDisagree => exact of_lineAt fun s => tachoDisagree_line (.start s)
  | tachoAgreementReached => exact of_lineAt fun s => tachoAgreementReached_line (.start s)
  | standstillReached => exact of_lineAt fun s => standstillReached_line (.start s)
  | tachoCount x e => exact of_lineAt fun s => LineAt.ite (.start s) (LineAt.setOdo (.start s) _)
  | sampleAtPfu => exact of_lineAt fun s => sampleAtPfu_line (.start s)
  | beaconMissed => exact of_lineAt fun s => beaconMissed_line (.start s)
  | sampleAtRw => exact of_lineAt fun s => sampleAtRw_line (.start s)
  | sampleAtSs => exact of_lineAt fun s => sampleAtSs_line (.start s)
  | carryLimitExceeded k => exact of_lineAt fun s => carryLimitExceeded_line (.start s) k
  | conversionCompletion k raw => exact of_lineAt fun s => LineAt.only (.start s) (completeConversion_onlyAcSv k raw s)
  | trackingError k => exact of_lineAt fun s => LineAt.only (.start s) (trackingError_onlyAcSv k s)
  | drivePeriodStart k => exact of_lineAt fun s => LineAt.only (.start s) (drivePeriodStart_onlyAcSv k s)
  | lockContactChange k lke lkr => exact of_lineAt fun s => LineAt.only (.start s) (lockContactChange_onlyAcSv k lke lkr s)
  | centreSensorChange k ctl ctr => exact of_lineAt fun s => LineAt.only (.start s) (centreSensorChange_onlyAcSv k ctl ctr s)
  | homingTimeout k => exact of_lineAt fun s => LineAt.only (.start s) (homingTimeout_onlyAcSv k s)
  | lockStuck k => exact of_lineAt fun s => LineAt.only (.start s) (lockStuck_onlyAcSv k s)
  | lockFail k => exact of_lineAt fun s => LineAt.only (.start s) (lockFail_onlyAcSv k s)
  | settleFramesReached k => exact of_lineAt fun s => LineAt.only (.start s) (settleFramesReached_onlyAcSv k s)
  | centringTimerExpiry k => exact of_lineAt fun s => LineAt.only (.start s) (centringTimerExpiry_onlyAcSv k s)
  | beaconTelegram id good => exact of_lineAt fun s => beaconTelegram_line (.start s) id good
  | positionCorrection => exact of_lineAt fun s => positionCorrection_line (.start s)
  | beaconMark => exact of_lineAt fun s => beaconMark_line (.start s)
  | presenceTimerExpiry m => exact of_lineAt fun s => presenceExpiry_line (.start s) m
  | offerTimerExpiry => exact of_lineAt fun s => offerExpiry_line (.start s)
  | openingFlag => exact of_event openingFlag_lines
  | supplyLoss => exact of_effect fun _ => supplyLoss_lines

end Sys2Proof.Machine

/-! # The invariants through every command -/

namespace Sys2Proof.Machine

/-- The scope of one step. -/
def Scope.ofStep (s : State) (exact requests raw : Prop) : Scope :=
  { exact := exact, requests := requests, raw := raw, derived := True, strict := True, table := s.ct.table
    fit := s.ct.table.fitted, persist := fun _ => 100, timer := fun _ => 1000 }

/-- What a step that keeps the invariants has made of them. -/
structure Stepped (exact raw keeps : Prop) (s t : State) : Prop where
  window : WindowInv t
  faults : FaultInv t
  authority : AuthorityInv t
  bogie : BogieInv t
  config : ConfigInv t
  range : RangeInv t
  view : ViewInv t
  tracks : TracksShortfall exact s t
  measured : raw → ∀ k, (t.ac.get k).m.natAbs ≤ 16320
  latch : keeps → s.sv.latch = true → t.sv.latch = true

section

variable {s t : State} {exact requests raw keeps : Prop}

/-- A step begins with what the invariants give. -/
theorem Told.start (h : Inv s) (hr : raw → ∀ k, (s.ac.get k).m.natAbs ≤ 16320) :
    Told (Scope.ofStep s exact requests raw) s s := by
  obtain ⟨hw, hf, ha, hb, ⟨htarget, habsent, -⟩, hc, hrange, hview, -⟩ := h
  obtain ⟨hseen, hsources, hroute, hderived⟩ := (ViewInv_iff s).1 hview
  obtain ⟨hodo, hpfu, hch, hss, hhands, hones, hqueue⟩ := RangeInv_iff.1 hrange
  refine ⟨⟨⟨hw, hf, ha, hc, fun _ => hodo, hpfu, hss, hhands, hones, hqueue, id, .start _ rfl, fun _ => le_rfl, rfl, hsources,
    fun _ => hderived⟩, hroute⟩, fun k => ?_, fun _ k => habsent k, hb, hseen⟩
  obtain ⟨h1, h2, h3, h4, h5⟩ := Channel.rangeInv_iff.1 (hch k)
  obtain ⟨-, -, htheta⟩ := htarget k
  exact ⟨⟨h1, h2, h3, h5, htheta.trans (angleLimit_le hc.1 k), fun h => hr h k⟩, h4⟩

theorem Kept.stepped (h : Kept (Scope.ofStep s exact requests raw) s t) : Stepped exact raw keeps s t where
  window := h.window
  faults := h.faults
  authority := h.authority
  bogie := h.bogie
  config := h.config
  range := RangeInv_iff.2 ⟨h.odo trivial, h.pfu, fun k => Channel.rangeInv_iff.2 ⟨(h.inRange k).sched, (h.inRange k).zero,
    (h.inRange k).persist, h.timers k, (h.inRange k).drive⟩, h.records, h.hands, h.ones, h.queue⟩
  view := (ViewInv_iff t).2 ⟨h.seen, h.sources, h.route, h.derived trivial⟩
  tracks := h.tracks
  measured := fun hr k => (h.inRange k).measured hr
  latch := fun _ => h.latch

theorem Told.stepped (h : Told (Scope.ofStep s exact requests raw) s t) : Stepped exact raw keeps s t :=
  Kept.stepped (requests := requests) (Told.kept (T := s.ct.table) h)

/-! ### Frames received -/

variable {p : Scope} {s₀ : State}

theorem presenceReload_kept (h : Kept p s₀ s) (m : Master) : Kept p s₀ (presenceReload m s) := presenceReload_told h m

/-- Nothing is dispatched while a frame is in service (R171). -/
theorem serveUpTo_busy {v : Service} (hs : s.li.service = some v) (n : Nat) : serveUpTo n s = s := by
  cases n with
  | zero => rfl
  | succ n => unfold serveUpTo; rw [hs]

/-- A frame that waits alone is dispatched once the interface is free (R171). -/
theorem serve_one {f : QFrame} (hs : s.li.service = none) (hq : s.li.queue = [f]) :
    serve s = dispatch f (s.setLi { s.li with queue := [] }) := by
  have one : serve s = serveUpTo 1 s := by rw [serve, hq]; rfl
  rw [one, serveUpTo, hs, hq]; rfl

/-- An accepted frame is dispatched at once, or waits; either way at most one frame has effects. -/
theorem acceptFrame_kept (h : Kept p s₀ s) (hp : p.requests) (hd : p.derived) {l : Li} {m : Mode} (hl : LineAt l m .on s)
    (hm : m ≠ .sleep) (hq : l.service = none → l.queue = []) (hx : p.exact → s.sv.shortfall = s₀.sv.shortfall) (hdr : Hdr)
    (req : Request) : Kept p s₀ (acceptFrame hdr req s) := by
  have present := presenceReload_kept h hdr.src
  have line : LineAt l m .on (presenceReload hdr.src s) := hl.setAa _
  have hsv : (presenceReload hdr.src s).sv = s.sv := rfl
  unfold acceptFrame; dsimp only; split_ifs
  · generalize presenceReload hdr.src s = u at present line hsv
    have hx : p.exact → u.sv.shortfall = s₀.sv.shortfall := by rw [hsv]; exact hx
    rw [← line.mode] at hm
    rw [← line.li] at hq
    unfold enqueue; split_ifs with hlen
    · have joined : Kept p s₀ (u.setLi { u.li with queue := u.li.queue ++ [⟨hdr, req, 0⟩] }) :=
        present.setLi present.ones (by rw [List.length_append]; exact hlen)
      have hservice : (u.setLi { u.li with queue := u.li.queue ++ [⟨hdr, req, 0⟩] }).li.service = u.li.service := rfl
      have hqueue : (u.setLi { u.li with queue := u.li.queue ++ [⟨hdr, req, 0⟩] }).li.queue = u.li.queue ++ [⟨hdr, req, 0⟩] :=
        rfl
      have hsv' : (u.setLi { u.li with queue := u.li.queue ++ [⟨hdr, req, 0⟩] }).sv = u.sv := rfl
      have hct : (u.setLi { u.li with queue := u.li.queue ++ [⟨hdr, req, 0⟩] }).ct = u.ct := rfl
      generalize u.setLi { u.li with queue := u.li.queue ++ [⟨hdr, req, 0⟩] } = v at *
      cases hs : u.li.service with
      | none =>
        rw [hq hs] at hqueue
        rw [serve_one (hservice.trans hs) hqueue]
        exact dispatch_kept (s := v.setLi { v.li with queue := [] }) (joined.setLi joined.ones (Nat.zero_le _)) hp hd
          (by rw [State.setLi_ct, hct]; exact hm) (by rw [State.setLi_sv, hsv']; exact hx) _
      | some w => rw [serve, serveUpTo_busy (hservice.trans hs)]; exact joined
    · have lost : Kept p s₀ (u.setLi { u.li with overrun := true }) := present.setLi present.ones present.queue
      have hs : u.li.service ≠ none := fun hs => by
        rw [hq hs] at hlen; exact hlen (by decide)
      obtain ⟨v, hv⟩ := Option.ne_none_iff_exists'.1 hs
      have busy := serveUpTo_busy (s := u.setLi { u.li with overrun := true }) hv
      rw [serve, busy]; exact lost
  · exact present

theorem flag_kept (h : Kept p s₀ s) (r : Receiver) (b : Bool) : Kept p s₀ (s.setLi (s.li.flag r b)) :=
  h.setLi (Nat.zero_le _) h.queue

theorem noteFlag_kept (h : Kept p s₀ s) (b : Bool) : Kept p s₀ (noteFlag b s) := by
  unfold noteFlag; split_ifs
  exacts [h, flag_kept h _ b]

/-- A frame received by a receiver that runs (R164). -/
theorem received_kept (h : Kept p s₀ s) (hp : p.requests) (hd : p.derived) (hl : LineInv s) (hon : s.power = .on)
    (hr : s.li.receiver ≠ .stopped) (hx : p.exact → s.sv.shortfall = s₀.sv.shortfall) (hdr : Hdr) (req : Request) :
    Kept p s₀ (acceptFrame hdr req (closeReception s)) := by
  obtain ⟨hok, hq⟩ := lineOk hl hon
  exact acceptFrame_kept (flag_kept h _ _) hp hd (closeReception_lineAt hon) (hok.awake hr).1 hq hx hdr req

theorem receiveRequest_kept (h : Kept p s₀ s) (hp : p.requests) (hd : p.derived) (hl : LineInv s) (hon : s.power = .on)
    (hx : p.exact → s.sv.shortfall = s₀.sv.shortfall) (hdr : Hdr) (req : Request) :
    Kept p s₀ (receiveRequest hdr req s) := by
  unfold receiveRequest; split_ifs with hr
  · exact received_kept h hp hd hl hon (by rcases Receiver.runs_iff.1 hr with hr | hr <;> rw [hr] <;> nofun) hx hdr req
  · exact noteFlag_kept h _

theorem frameClosed_kept (h : Kept p s₀ s) (hp : p.requests) (hd : p.derived) (hl : LineInv s) (hon : s.power = .on)
    (hx : p.exact → s.sv.shortfall = s₀.sv.shortfall) (bits : List Bool) : Kept p s₀ (frameClosed bits s) := by
  unfold frameClosed; split
  · exact noteFlag_kept h _
  · exact noteFlag_kept h _
  · exact flag_kept h _ _
  · rename_i hr
    have closed : Kept p s₀ (closeReception s) := flag_kept h _ _
    split_ifs
    · exact flag_kept h _ _
    · unfold receiveBits; split
      · exact closed
      · split
        · exact closed
        · exact received_kept h hp hd hl hon (by rw [hr]; nofun) hx _ _

theorem frameAbort_kept (h : Kept p s₀ s) : Kept p s₀ (frameAbort s) := by
  have aborted (r : Receiver) : Kept p s₀ (s.setLi (s.li.aborted r)) := h.setLi (show 7 ≤ 20 by decide) h.queue
  unfold frameAbort; (repeat' split)
  exacts [aborted _, aborted _, h, aborted _, h, h.setLi h.ones h.queue]

theorem openingFlag_kept (h : Kept p s₀ s) : Kept p s₀ (openingFlag s) := by
  unfold openingFlag; split_ifs
  exacts [flag_kept h _ _, noteFlag_kept h _]

theorem lineFree_kept (h : Kept p s₀ s) : Kept p s₀ (lineFree s) := by
  unfold lineFree; split_ifs
  exacts [h.setLi h.ones h.queue, h]

theorem replyStart_kept (h : Kept p s₀ s) : Kept p s₀ (replyStart s) := by
  unfold replyStart; split
  · exact h
  · rename_i v _
    dsimp only; split_ifs
    · have noticed : Kept p s₀ (s.setSv { s.sv with notice := noticesAfter v s }) :=
        Told.ofSv h { h.toCore with } rfl rfl
      exact noticed.setLi (Nat.zero_le _) noticed.queue
    · exact h

/-- The queue served once a service has ended. -/
theorem endService_kept (h : Kept p s₀ s) (hp : p.requests) (hd : p.derived) (hx : ¬p.exact) {l : Li} {m : Mode}
    (hl : LineAt l m .on s) (hok : LineOk { l with service := none } m) : Kept p s₀ (serve (endService s)) := by
  refine serveUpTo_kept _ (endService_told h hp).kept hp hd hx ?_
  rcases endService_line hl with he | he <;> rw [he.li, he.mode]
  exacts [hok, hok.slept]

theorem endOfService_kept (h : Kept p s₀ s) (hp : p.requests) (hd : p.derived) (hx : ¬p.exact) (hl : LineInv s)
    (hon : s.power = .on) : Kept p s₀ (endOfService s) := by
  obtain ⟨hok, -⟩ := lineOk hl hon
  unfold endOfService; split
  · exact h
  · rename_i v hs
    split
    · exact h
    · have hm : s.ct.mode ≠ .sleep := fun hm => absurd (hs.symm.trans (hok.asleep hm).1) nofun
      refine endService_kept (flag_kept h _ _) hp hd hx (l := s.li.flag .hunting s.li.inFrame) (m := s.ct.mode)
        ⟨rfl, rfl, hon⟩ ?_
      exact { depth := hok.depth, asleep := fun hsl => absurd hsl hm, receiving := nofun, inFrame := fun _ => ⟨rfl, rfl⟩
              waiting := nofun, stopped := ⟨nofun, fun ho => ho.elim (fun hsl => absurd hsl hm) nofun⟩ }

theorem replyDrop_kept (h : Kept p s₀ s) (hp : p.requests) (hd : p.derived) (hx : ¬p.exact) (hl : LineInv s)
    (hon : s.power = .on) : Kept p s₀ (replyDrop s) := by
  obtain ⟨hok, -⟩ := lineOk hl hon
  unfold replyDrop; split
  · exact h
  · rename_i v hs
    split_ifs with hdrop
    · have hm : s.ct.mode ≠ .sleep := fun hm => absurd (hs.symm.trans (hok.asleep hm).1) nofun
      have hnone : v.reply = none := by simpa using hdrop.1
      exact endService_kept h hp hd hx (l := s.li) (m := s.ct.mode) ⟨rfl, rfl, hon⟩
        (hok.freed (fun hr => by rw [hs] at hr; simp [hnone] at hr) hm)
    · exact h

/-! ### Supply and time -/

theorem Channel.InRange.quiet {r : Prop} {n : Nat} {ch : Channel} (h : ch.InRange r n) : ch.quiet.InRange r n :=
  { h with drive := trivial }

theorem quiet_atMost (ch : Channel) (n : Nat) : ch.quiet.TimersAtMost n := ⟨nofun, nofun, nofun, nofun⟩

/-- A part that stops holds an offer no longer, and what it then says of presence nobody asks (R188; log 12). -/
theorem quiesced_told (h : Told p s₀ s) {w : Power} (hw : w ≠ .on) : Told p s₀ ((quiesce s).setPower w) := by
  obtain ⟨hform, hmode, -⟩ := h.authority
  have get (k : Chan) : (((quiesce s).setPower w).ac.get k) = (s.ac.get k).quiet := Quad.get_build _ k
  refine { h with
    authority := ⟨?_, fun hm => ?_, fun hon => absurd hon hw⟩
    odo := fun hp => { h.odo hp with }
    hands := fun _ hh => absurd hh List.not_mem_nil
    queue := Nat.zero_le _
    channels := fun k => by rw [get]; exact ⟨(h.inRange k).quiet, quiet_atMost _ _⟩
    absent := fun hp k => by rw [get]; exact h.absent hp k
    bogie := ⟨fun k hk => ?_, fun hl k => by rw [get]; exact h.bogie.2 hl k⟩
    seen := fun k => by rw [get]; exact h.seen k }
  · show (match s.aa.quiet.auth with | .vacant => _ | .held m => _ | .offered m n => _ : Prop)
    unfold Aa.quiet
    cases ha : s.aa.auth with
    | vacant => rfl
    | held m => rw [ha] at hform; exact ⟨hform.1, rfl⟩
    | offered m n => rw [ha] at hform; exact ⟨hform.1, rfl⟩
  · show s.aa.quiet.auth = .vacant
    unfold Aa.quiet
    rw [hmode hm]
  · rw [get] at hk ⊢; exact h.bogie.1 k hk

theorem tick_inRange {o : Odo} (h : o.InRange) : o.tick.InRange := by
  unfold Odo.tick; split
  · exact h
  · split_ifs
    exacts [{ h with }, h]

theorem tick_position (o : Odo) : o.tick.r = o.r := by
  unfold Odo.tick; split
  · rfl
  · split_ifs <;> rfl

theorem tick_authority (h : AuthorityInv s) : AuthorityInv (s.setAa s.aa.tick) := by
  obtain ⟨hform, hmode, hpres⟩ := h
  refine ⟨?_, hmode, fun hon => ?_⟩
  · show (match s.aa.auth with | .vacant => _ | .held m => _ | .offered m n => _ : Prop)
    cases ha : s.aa.auth <;> rw [ha] at hform <;> simpa [Aa.tick] using hform
  · have hall := hpres hon
    simp only [Aa.tick, Presence.tick, State.setAa_aa, List.mem_cons, List.not_mem_nil, or_false, forall_eq_or_imp, forall_eq,
      Option.isSome_map] at hall ⊢
    exact hall

theorem tick_told (h : Told p s₀ s) : Told p s₀ (tick s) :=
  { h with
    authority := tick_authority h.authority
    odo := fun hp => tick_inRange (h.odo hp)
    tracks := h.tracks.of_others rfl (tick_frameNo s.odo) (fun _ => tick_position s.odo) (fun _ hf _ _ => hf)
      (fun _ hf _ _ => hf) fun _ hl => hl
    ones := by
      show (if _ then _ else _) ≤ 20
      split_ifs
      exacts [onesAfter_le _ _, h.ones]
    queue := by
      show (s.li.queue.map _).length ≤ 3
      rw [List.length_map]; exact h.queue }

end

/-! ### Every command -/

/-- The command serves at most one frame, so that a report of HORIZON_SHORTFALL bears the position that stands at its end. -/
def Instr.servesOne (c : Instr) : Prop := c ≠ .endOfService ∧ c ≠ .replyDrop

/-- The command brings no raw code of more than 12 bits, and the measured angles stand within 16,320. -/
def Instr.rawWithin (c : Instr) (s : State) : Prop :=
  (∀ k raw, c = .conversionCompletion k raw → raw ≤ 4095) ∧ ∀ k, (s.ac.get k).m.natAbs ≤ 16320

/-- The command is no power-on reset. -/
def Instr.noReset (c : Instr) : Prop := ∀ straps pins, c ≠ .powerOnReset straps pins

/-- The command keeps what every step keeps. -/
def KeepsInv (c : Instr) : Prop :=
  ∀ s t, Inv s → exec c s = .next t → Stepped (Instr.servesOne c) (Instr.rawWithin c s) (Instr.noReset c) s t

/-- The scope of a command. -/
def Instr.scope (c : Instr) (requests : Prop) (s : State) : Scope :=
  .ofStep s (Instr.servesOne c) requests (Instr.rawWithin c s)

namespace KeepsInv

theorem started {c : Instr} {requests : Prop} {s : State} (h : Inv s) : Told (Instr.scope c requests s) s s :=
  .start h fun hr => hr.2

theorem of_effect {c : Instr} {f : State → State} (requests : Prop)
    (hf : ∀ {s}, Inv s → Kept (Instr.scope c requests s) s s → Kept (Instr.scope c requests s) s (f s))
    (he : ∀ s, exec c s = .next (f s) := by intro _; rfl) : KeepsInv c := by
  intro s t h ht
  rw [← Host.Outcome.next.inj ((he s).symm.trans ht)]
  exact (hf h (started h)).stepped

/-- An event that is no request. -/
theorem of_event {c : Instr} {f : State → State}
    (hf : ∀ {s}, Told (Instr.scope c False s) s s → Told (Instr.scope c False s) s (f s))
    (he : ∀ s, exec c s = runEvent f s := by intro _; rfl) : KeepsInv c := by
  refine of_effect (f := (whenOn · f)) False (fun {s} h hs => ?_) he
  by_cases hon : s.power = .on
  · rw [whenOn_on hon]; exact Told.kept (T := s.ct.table) (hf hs)
  · rw [whenOn_off hon]; exact hs

/-- An event that may bring requests. -/
theorem of_service {c : Instr} {f : State → State}
    (hf : ∀ {s}, LineInv s → s.power = .on → Kept (Instr.scope c True s) s s → Kept (Instr.scope c True s) s (f s))
    (he : ∀ s, exec c s = runEvent f s := by intro _; rfl) : KeepsInv c := by
  refine of_effect (f := (whenOn · f)) True (fun {s} h hs => ?_) he
  obtain ⟨-, -, -, -, -, -, -, -, hl⟩ := h
  by_cases hon : s.power = .on
  · rw [whenOn_on hon]; exact hf hl hon hs
  · rw [whenOn_off hon]; exact hs

theorem of_request {c : Instr} (h : Hdr) (req : Request) (he : ∀ s, exec c s = runRequest h req s := by intro _; rfl) :
    KeepsInv c :=
  of_service (fun hl hon hs => receiveRequest_kept hs trivial trivial hl hon (fun _ => rfl) h req) he

/-- A power-on reset brings every block to values that meet the invariants. -/
theorem of_powerOnReset (straps : Nat) (pins : Quad SensorPins) : KeepsInv (.powerOnReset straps pins) := by
  intro s t _ ht
  obtain ⟨hw, hf, ha, hb, -, hc, hr, hv, -⟩ := afterReset_inv straps (pinReadings pins)
  rw [← Host.Outcome.next.inj ht]
  exact
    { window := hw, faults := hf, authority := ha, bogie := hb, config := hc, range := hr, view := hv
      tracks := ⟨fun _ hs => absurd hs nofun, fun _ _ f hf => absurd hf List.not_mem_nil⟩
      measured := fun _ k => afterReset_each straps (pinReadings pins) (p := (·.m.natAbs ≤ 16320)) (fun _ _ => Nat.zero_le _) k
      latch := fun hk => absurd rfl (hk straps pins) }

end KeepsInv

open KeepsInv in
theorem exec_keepsInv (c : Instr) : KeepsInv c := by
  cases c with
  | openRoute h f => exact of_request h (.openRoute f)
  | appendSegment h f => exact of_request h (.appendSegment f)
  | closeRoute h => exact of_request h .closeRoute
  | speedReference h v flags => exact of_request h (.speedReference v flags)
  | place h rRef u => exact of_request h (.place rRef u)
  | unlock h => exact of_request h .unlock
  | centreAll h => exact of_request h .centreAll
  | calibrate h channel => exact of_request h (.calibrate channel)
  | hold h mode => exact of_request h (.hold mode)
  | resume h => exact of_request h .resume
  | claim h => exact of_request h .claim
  | release h => exact of_request h .release
  | offer h target => exact of_request h (.offer target)
  | accept h => exact of_request h .accept
  | readStatus h => exact of_request h .readStatus
  | readPosition h => exact of_request h .readPosition
  | readChannel h channel => exact of_request h (.readChannel channel)
  | readWindow h position => exact of_request h (.readWindow position)
  | readFaults h position => exact of_request h (.readFaults position)
  | setConfig h param channel value => exact of_request h (.setConfig param channel value)
  | setGain h gain => exact of_request h (.setGain gain)
  | sleep h => exact of_request h .sleep
  | restart h => exact of_request h .restart
  | clearFaults h => exact of_request h .clearFaults
  | frameClosed bits =>
    exact of_service fun hl hon hs => frameClosed_kept hs trivial trivial hl hon (fun _ => rfl) bits
  | frameAbort => exact of_service fun _ _ hs => frameAbort_kept hs
  | lineFree => exact of_service fun _ _ hs => lineFree_kept hs
  | replyStart => exact of_service fun _ _ hs => replyStart_kept hs
  | endOfService => exact of_service fun hl hon hs => endOfService_kept hs trivial trivial (fun hx => hx.1 rfl) hl hon
  | replyDrop => exact of_service fun hl hon hs => replyDrop_kept hs trivial trivial (fun hx => hx.2 rfl) hl hon
  | wake => exact of_event fun {s} hs => wake_told (p := Instr.scope .wake False s) (T := s.ct.table) hs
  | resetAsserted =>
    exact of_effect (f := resetAsserted) False fun {s} _ hs =>
      Told.kept (T := s.ct.table) (Told.ite hs (quiesced_told hs (w := .inReset) nofun))
  | powerOnReset straps pins => exact of_powerOnReset straps pins
  | stabilisationTimerExpiry => exact of_event fun hs => stabilisationExpiry_told hs id
  | frameTimerExpiry => exact of_event fun hs => frameTimerExpiry_told hs trivial id rfl
  | tachoFailed x => exact of_event fun hs => tachoFailed_told hs id x
  | tachoDisagree => exact of_event fun hs => tachoDisagree_told hs id
  | tachoAgreementReached => exact of_event tachoAgreementReached_told
  | standstillReached => exact of_event standstillReached_told
  | tachoCount x e => exact of_event fun hs => tachoCount_told hs x e
  | sampleAtPfu => exact of_event fun hs => sampleAtPfu_told hs id
  | beaconMissed => exact of_event fun hs => beaconMissed_told hs id
  | sampleAtRw => exact of_event sampleAtRw_told
  | sampleAtSs => exact of_event fun hs => sampleAtSs_told hs id fun _ => rfl
  | carryLimitExceeded k => exact of_event carryLimitExceeded_told
  | conversionCompletion k raw =>
    exact of_event fun hs => completeConversion_told hs id rfl fun hr => hr.1 k raw rfl
  | trackingError k => exact of_event fun hs => trackingError_told hs id
  | drivePeriodStart k => exact of_event drivePeriodStart_told
  | lockContactChange k lke lkr => exact of_event fun hs => lockContactChange_told hs id lke lkr
  | centreSensorChange k ctl ctr => exact of_event fun hs => centreSensorChange_told hs id ctl ctr
  | homingTimeout k => exact of_event fun hs => homingTimeout_told hs id
  | lockStuck k => exact of_event fun hs => lockStuck_told hs id
  | lockFail k => exact of_event fun hs => lockFail_told hs id
  | settleFramesReached k => exact of_event fun hs => settleFramesReached_told hs id
  | centringTimerExpiry k => exact of_event fun hs => centringTimerExpiry_told hs id
  | beaconTelegram id good => exact of_event fun hs => beaconTelegram_told hs not_false id good
  | positionCorrection => exact of_event fun hs => positionCorrection_told hs fun _ => rfl
  | beaconMark => exact of_event beaconMark_told
  | presenceTimerExpiry m => exact of_event fun hs => presenceExpiry_told hs id m
  | offerTimerExpiry => exact of_event offerExpiry_told
  | openingFlag => exact of_service fun _ _ hs => openingFlag_kept hs
  | supplyLoss =>
    exact of_effect (f := supplyLoss) False fun {s} _ hs =>
      Told.kept (T := s.ct.table) (quiesced_told hs (w := .noSupply) nofun)

end Sys2Proof.Machine

/-! # O54, O55, O56, O58, O59: what every step keeps -/

namespace Sys2Proof.Machine

section

variable {s t : State} {exact raw keeps exact' raw' keeps' : Prop}

theorem Stepped.mono (h : Stepped exact raw keeps s t) (he : exact' → exact) (hr : raw' → raw) (hk : keeps' → keeps) :
    Stepped exact' raw' keeps' s t :=
  { h with
    tracks := ⟨fun h0 h1 hl0 hl => by
      obtain ⟨f, hf, hc, hsub, ha, hfr, hd, hx⟩ := h.tracks.1 h0 h1 hl0 hl
      exact ⟨f, hf, hc, hsub, ha, hfr, hd, fun e => hx (he e)⟩, h.tracks.2⟩
    measured := fun r => h.measured (hr r)
    latch := fun k => h.latch (hk k) }

/-- A step serves at most one frame. -/
def State.servesOne (s : State) : Prop := ∀ rest, s.pending ≠ .endOfService :: rest ∧ s.pending ≠ .replyDrop :: rest

/-- A step's raw code has at most 12 bits, and the measured angles stand within 16,320. -/
def State.rawWithin (s : State) : Prop :=
  (∀ k raw rest, s.pending = .conversionCompletion k raw :: rest → raw ≤ 4095) ∧ ∀ k, (s.ac.get k).m.natAbs ≤ 16320

/-- A step is no power-on reset. -/
def State.noReset (s : State) : Prop := ∀ straps pins rest, s.pending ≠ .powerOnReset straps pins :: rest

/-- A step is one bit time, or the command at the front of the queue. -/
theorem step_cases (h : step s = .next t) : s.pending = [] ∧ t = whenOn s tick ∨
    ∃ c rest, s.pending = c :: rest ∧ exec c (s.setPending rest) = .next t := by
  unfold step at h
  split at h
  · exact .inl ⟨‹_›, (Host.Outcome.next.inj h).symm⟩
  · exact .inr ⟨_, _, ‹_›, h⟩

theorem whenOn_tick_stepped (h : Inv s) : Stepped exact (∀ k, (s.ac.get k).m.natAbs ≤ 16320) keeps s (whenOn s tick) := by
  have start : Told (Scope.ofStep s exact False (∀ k, (s.ac.get k).m.natAbs ≤ 16320)) s s := .start h id
  by_cases hon : s.power = .on
  · rw [whenOn_on hon]; exact (tick_told start).stepped
  · rw [whenOn_off hon]; exact start.stepped

theorem step_stepped (h : Inv s) (hs : step s = .next t) : Stepped s.servesOne s.rawWithin s.noReset s t := by
  rcases step_cases hs with ⟨-, rfl⟩ | ⟨c, rest, hp, hc⟩
  · exact (whenOn_tick_stepped (exact := s.servesOne) (keeps := s.noReset) h).mono id (fun hr => hr.2) id
  · have hk : Stepped (Instr.servesOne c) (Instr.rawWithin c s) (Instr.noReset c) s t :=
      { exec_keepsInv c (s.setPending rest) t h hc with }
    refine hk.mono (fun he => ?_) (fun hr => ⟨fun k raw hcr => hr.1 k raw rest (by rw [hp, hcr]), hr.2⟩) fun hn straps pins hcr =>
      hn straps pins rest (by rw [hp, hcr])
    obtain ⟨h1, h2⟩ := he rest
    exact ⟨fun hc => h1 (by rw [hp, hc]), fun hc => h2 (by rw [hp, hc])⟩

theorem step_line (h : Inv s) (hs : step s = .next t) : LineInv t ∧ (s.li.line = .busy →
    t.li.line = .free → 16 ≤ s.li.ones ∧ s.li.inFrame = false ∧ t.li.receiver = .hunting) := by
  obtain ⟨-, -, -, -, -, -, -, -, hl⟩ := h
  rcases step_cases hs with ⟨-, rfl⟩ | ⟨c, rest, -, hc⟩
  · exact KeepsLine.of_lines (KeepsLine.whenOn_lines (tick_lines hl) hl)
  · exact exec_keepsLine c (s.setPending rest) t hl hc

end

/-- Settles O54: a walk through every command with what the invariants give. -/
theorem everyStepKeepsTheWindow : Obligations.EveryStepKeepsTheWindow := fun _ _ h hs => (step_stepped h hs).window

/-- Settles O55. -/
theorem everyStepKeepsFaultListAndAuthority : Obligations.EveryStepKeepsFaultListAndAuthority := fun _ _ h hs =>
  ⟨(step_stepped h hs).faults, (step_stepped h hs).authority⟩

/-- Settles O56. -/
theorem everyStepKeepsPairingAndLatch : Obligations.EveryStepKeepsPairingAndLatch := fun _ _ h hs =>
  ⟨(step_stepped h hs).bogie, fun hl hk => (step_stepped h hs).latch hk hl⟩

/-- Settles O58. -/
theorem everyStepKeepsRangesAndTheQueue : Obligations.EveryStepKeepsRangesAndTheQueue := fun _ _ h hs =>
  ⟨(step_stepped h hs).config, (step_stepped h hs).range, (step_line h hs).1, (step_line h hs).2,
    fun hraw hm => (step_stepped h hs).measured ⟨hraw, hm⟩⟩

/-! ### O59: what is derived, row by row -/

theorem fitted_eq (t : ConfigTable) (k : Chan) :
    t.fitted k = ((t.chan.get k).enable && (t.fitting == .twoBogies || k == .c1 || k == .c2)) := by
  have bogie2 : (Chan.c3 == .c1) = false ∧ (Chan.c3 == .c2) = false ∧ (Chan.c4 == .c1) = false ∧ (Chan.c4 == .c2) = false :=
    ⟨rfl, rfl, rfl, rfl⟩
  cases k <;> simp [ConfigTable.fitted, Chan.onBogie1, Bool.and_comm, bogie2]

theorem steers_eq (st : ChanState) : st.steers = (st == .tracking || st == .holding) := by
  cases st <;> rfl

theorem faultedOpen_eq (st : ChanState) : st.faultedOpen = (st == .faulted .lockAwaited || st == .faulted .lockFailed) := by
  rcases st with _ | _ | _ | _ | _ | _ | _ | _ | ph
  case faulted => cases ph <;> rfl
  all_goals rfl

theorem isShort_eq (x : Source) : x.isShort = (x == .fromWindowShort || x == .carried || x == .decaying) := by
  cases x <;> rfl

theorem someFitted_congr {t : ConfigTable} {view : Quad ChanView} {p : ChanView → Bool} {q : Chan → Bool}
    (h : ∀ k, t.fitted k = true → p (view.get k) = q k) : someFitted t view p =
      (t.fitted .c1 && q .c1 || t.fitted .c2 && q .c2 || t.fitted .c3 && q .c3 || t.fitted .c4 && q .c4) := by
  have each (k : Chan) : (t.fitted k && p (view.get k)) = (t.fitted k && q k) := by
    cases hk : t.fitted k
    exacts [rfl, congrArg (true && ·) (h k hk)]
  simp only [someFitted, Chan.all, List.any_cons, List.any_nil, each, Bool.or_false, Bool.or_assoc]

theorem not_or_and_iff : ∀ a b c : Bool, (!a || (a && b && c)) = true ↔ a = (a && b && c) := by decide

/-- What the Supervisor derives, in the channels' and the schedule's own items (R136, R137, R140). -/
theorem derived_rows {t : State} (h : ViewInv t) :
    let fit (k : Chan) : Bool := (t.ct.table.chan.get k).enable && (t.ct.table.fitting == .twoBogies || k == .c1 || k == .c2)
    let steers (k : Chan) : Bool := (t.ac.get k).state == .tracking || (t.ac.get k).state == .holding
    let short (k : Chan) : Bool :=
      (t.ss.get k).source == .fromWindowShort || (t.ss.get k).source == .carried || (t.ss.get k).source == .decaying
    let lockOpen (k : Chan) : Bool :=
      (t.ac.get k).state == .faulted .lockAwaited || (t.ac.get k).state == .faulted .lockFailed
    let someFit (p : Chan → Bool) : Bool := fit .c1 && p .c1 || fit .c2 && p .c2 || fit .c3 && p .c3 || fit .c4 && p .c4
    let bogieSteers (i j : Chan) : Bool := (fit i || fit j) && (!fit i || steers i) && (!fit j || steers j)
    t.sv.steering =
        (if bogieSteers .c1 .c2 = false ∧ bogieSteers .c3 .c4 = false then .unsteered
         else if (fit .c1 || fit .c2) = bogieSteers .c1 .c2 ∧ (fit .c3 || fit .c4) = bogieSteers .c3 .c4 then .steering
         else .partially) ∧
      t.sv.level =
        (if t.sv.latch = true then .severe
         else if someFit lockOpen = true then .severe
         else if someFit (fun _ => true) = false then .reduced
         else if someFit (fun k => !steers k) = true then .reduced
         else if someFit short = true then .reduced
         else .none) ∧
      t.sv.shortfall = (t.rw.isOpen && t.pfu.conf == .placed && someFit fun k => steers k && short k) := by
  intro fit steers short lockOpen someFit bogie
  obtain ⟨hstate, hsource, hopen, hconf, hsteering, hlevel, hshort⟩ := h
  have hfit (k : Chan) : t.ct.table.fitted k = fit k := fitted_eq t.ct.table k
  have hsteers (k : Chan) : (t.sv.view.get k).state.steers = steers k := by rw [(hstate k).1, steers_eq]
  have hlock (k : Chan) : (t.sv.view.get k).state.faultedOpen = lockOpen k := by rw [(hstate k).1, faultedOpen_eq]
  have hisShort (k : Chan) (hk : t.ct.table.fitted k = true) : (t.sv.view.get k).source.isShort = short k := by
    rw [hsource k hk, isShort_eq]
  have some {p : ChanView → Bool} {q : Chan → Bool} (hp : ∀ k, t.ct.table.fitted k = true → p (t.sv.view.get k) = q k) :
      someFitted t.ct.table t.sv.view p = someFit q := by
    rw [someFitted_congr hp]; simp only [hfit]; rfl
  have hbogie (i j : Chan) : bogieSteers t.ct.table t.sv.view i j = bogie i j := by
    simp only [bogieSteers, bogieFitted, hfit, hsteers]; rfl
  refine ⟨?_, ?_, ?_⟩
  · rw [hsteering, steeringModeOf, hbogie, hbogie, bogieFitted, bogieFitted, hfit, hfit, hfit, hfit]
    have whole (i j : Chan) : (!(fit i || fit j) || bogie i j) = true ↔ (fit i || fit j) = bogie i j :=
      not_or_and_iff (fit i || fit j) (!fit i || steers i) (!fit j || steers j)
    simp only [Bool.and_eq_true, Bool.not_eq_true', whole]
  · rw [hlevel, levelOf, some fun k _ => hlock k, some fun _ _ => rfl, some (q := fun k => !steers k) fun k _ => by rw [hsteers],
      some hisShort]
    simp only [Bool.not_eq_true']
  · rw [hshort, shortfallOf, hopen, hconf, some (q := fun k => steers k && short k) fun k hk => by rw [hsteers, hisShort k hk]]

/-- Settles O59. -/
theorem everyStepKeepsTheSupervisorsView : Obligations.EveryStepKeepsTheSupervisorsView := by
  intro s t h hs
  have stepped := step_stepped h hs
  have few (l : List FaultRecord) (hl : l.length < 16) : (others l).length < 16 := (List.filter_sublist.length_le).trans_lt hl
  refine ⟨stepped.view, derived_rows stepped.view, fun h0 h1 hl0 hl => ?_, stepped.tracks.2⟩
  exact stepped.tracks.1 h0 h1 (few _ hl0) (few _ hl)

end Sys2Proof.Machine

/-! # A bit time, the receiver, reset and supply, edges and drive periods -/

namespace Sys2Proof.Machine

variable {s : State}

theorem exec_event_eq {c : Instr} {f : State → State} {t : State} (hon : s.power = .on) (ht : f s = t)
    (he : exec c s = runEvent f s := by rfl) : exec c s = .next t := ht ▸ exec_event hon he

/-! ### A bit time (log 3) -/

/-- What a bit time does to a timer that may run: one whose time is not over advances, one whose time is over stands. -/
theorem timer_runs (t : Option Timer) : (t = none → t.map Timer.tick = none) ∧
    ∀ tm, t = some tm →
      (tm.elapsed < tm.loaded * 250 → t.map Timer.tick = some ⟨tm.loaded, tm.elapsed + 1⟩) ∧
      (tm.elapsed = tm.loaded * 250 → t.map Timer.tick = some tm) := by
  refine ⟨fun h => by rw [h]; rfl, fun tm h => ⟨fun hlt => ?_, fun heq => ?_⟩⟩
  · rw [h]; exact congrArg (fun e => some (Timer.mk tm.loaded e)) (Nat.min_eq_left hlt)
  · rw [h]; exact congrArg (fun e => some (Timer.mk tm.loaded e)) ((Nat.min_eq_right (by
      show tm.loaded * 250 ≤ _; omega)).trans heq.symm)

theorem Odo.tick_of_stopped {o : Odo} (h : o.timer = none) : o.tick = o := by unfold Odo.tick; rw [h]

theorem Odo.tick_of_running {o : Odo} {ft : FrameTimer} (h : o.timer = some ft) (hlt : ft.elapsed < ft.interval * 250) :
    o.tick = { o with timer := some ⟨ft.interval, ft.elapsed + 1⟩,
                      ref := o.ref.map fun r => { r with age := r.age + 1 } } := by
  unfold Odo.tick
  simp only [h]
  rw [if_pos (by exact hlt)]
  rw [FrameTimer.tick, show min (ft.elapsed + 1) (msToBitTimes ft.interval) = _ from Nat.min_eq_left hlt]

theorem Odo.tick_of_over {o : Odo} {ft : FrameTimer} (h : o.timer = some ft) (hle : ft.interval * 250 ≤ ft.elapsed) :
    o.tick = o := by
  unfold Odo.tick
  simp only [h]
  exact if_neg (Nat.not_lt.2 hle)

theorem Li.tick_eq (l : Li) : l.tick = { l with
    ones := if (l.receiver = .hunting ∨ l.receiver = .waiting) ∧ l.inFrame = false then
        if Config.lineCarriesOne l.bitTime = true then min (l.ones + 1) 20 else 0
      else l.ones
    bitTime := l.bitTime + 1
    queue := l.queue.map fun f => { f with age := min (f.age + 1) 500 }
    service := l.service.map fun v => { v with age := min (v.age + 1) 500 } } := by
  show ({ l with ones := l.tick.ones, bitTime := _, queue := _, service := _ } : Li) = _
  rw [tick_ones]
  simp only [seesOnes_iff]
  rfl

/-- Settles O2. -/
theorem idleStepIsOneBitTime : Obligations.IdleStepIsOneBitTime := by
  intro s hp
  rw [step_of_nil hp]
  refine ⟨fun hoff => by rw [whenOn_off hoff], fun hon => ⟨tick s, by rw [whenOn_on hon], ?_⟩⟩
  refine ⟨⟨timer_runs _, timer_runs _, timer_runs _, timer_runs _, timer_runs _⟩, Odo.tick_of_stopped, fun ft hft =>
    ⟨Odo.tick_of_running hft, Odo.tick_of_over hft⟩, Li.tick_eq s.li, rfl, rfl, rfl, rfl, rfl, rfl, rfl, rfl, rfl, rfl, rfl,
    hp, hon⟩

/-! ### The receiver (R164, R167, R180) -/

/-- A flag that opens a frame, where the receiver runs. -/
theorem openingFlag_runs (h : s.li.receiver = .hunting ∨ s.li.receiver = .receiving) :
    openingFlag s = s.setLi (s.li.flag .receiving true) := by
  unfold openingFlag; rw [if_pos (Receiver.runs_iff.2 h)]

theorem openingFlag_deaf (h : s.li.receiver = .waiting ∨ s.li.receiver = .stopped) : openingFlag s = noteFlag true s := by
  unfold openingFlag; rw [if_neg (by rcases h with h | h <;> simp [h, Receiver.runs])]

theorem frameClosed_hunting (h : s.li.receiver = .hunting) (bits : List Bool) :
    frameClosed bits s = s.setLi (s.li.flag .receiving true) := by unfold frameClosed; rw [h]

theorem frameClosed_receiving (h : s.li.receiver = .receiving) (bits : List Bool) : frameClosed bits s =
    if bits = [] then s.setLi (s.li.flag .receiving true) else receiveBits bits (closeReception s) := by
  unfold frameClosed; rw [h]

theorem frameClosed_deaf (h : s.li.receiver = .waiting ∨ s.li.receiver = .stopped) (bits : List Bool) :
    frameClosed bits s = noteFlag bits.isEmpty s := by
  unfold frameClosed; rcases h with h | h <;> rw [h]

theorem receiveRequest_deaf (h : s.li.receiver = .waiting ∨ s.li.receiver = .stopped) (hdr : Hdr) (req : Request) :
    receiveRequest hdr req s = noteFlag false s := by
  unfold receiveRequest; rw [if_neg (by rcases h with h | h <;> simp [h, Receiver.runs])]

theorem lineFree_of_not (h : ¬(s.li.seesOnes = true ∧ 16 ≤ s.li.ones)) : lineFree s = s := if_neg h

/-- Settles O31. -/
theorem receiverFollowsTheLine : Obligations.ReceiverFollowsTheLine := by
  intro s hon flagged
  have event {c : Instr} {f : State → State} {t : State} (ht : f s = t) (he : exec c s = runEvent f s := by rfl) :
      exec c s = .next t := exec_event_eq hon ht he
  refine ⟨fun h => ⟨event (openingFlag_runs h), event ?_⟩, fun bits h => event (frameClosed_hunting h bits),
    fun h hm => ⟨?_, ?_, fun bits hb => ?_, fun i hdr req hi => ?_⟩, fun h => event ?_, fun h => ⟨fun hf => event ?_, fun hf =>
      event ?_⟩, fun h => event ?_, fun h hf h16 => event ?_, fun h => event (lineFree_of_not ?_), fun h hm =>
      ⟨?_, fun bits => ?_, fun i hdr req hi => ?_⟩⟩
  · rcases h with h | h
    · exact frameClosed_hunting h []
    · rw [frameClosed_receiving h, if_pos rfl]; rfl
  · exact event ((openingFlag_deaf h).trans (noteFlag_awake hm))
  · exact event ((frameClosed_deaf h []).trans (noteFlag_awake hm))
  · exact event ((frameClosed_deaf h bits).trans (by rw [List.isEmpty_eq_false_iff.2 hb]; exact noteFlag_awake hm))
  · rw [exec_request_on hi hon, receiveRequest_deaf h, noteFlag_awake hm]
  · unfold frameAbort; rw [h]; rfl
  · rcases h with h | h <;> simp only [frameAbort, h, hf, if_true, Li.aborted, Config.abortOnes]
  · rcases h with h | h <;> simp only [frameAbort, h, hf, if_false, Bool.false_eq_true]
  · unfold frameAbort; rw [h]
  · unfold lineFree; rw [if_pos ⟨seesOnes_iff.2 ⟨h, hf⟩, h16⟩]
  · rintro ⟨hs, h16⟩
    obtain ⟨hr, hf⟩ := seesOnes_iff.1 hs
    rcases h with h | h | h | h
    · omega
    · simp [h] at hr
    · simp [h] at hr
    · simp [h] at hf
  · exact event ((openingFlag_deaf (.inr h)).trans (noteFlag_asleep hm))
  · exact event ((frameClosed_deaf (.inr h) bits).trans (noteFlag_asleep hm))
  · rw [exec_request_on hi hon, receiveRequest_deaf (.inr h), noteFlag_asleep hm]

/-! ### Reset and supply (R188) -/

/-- What reset and loss of supply leave of the part: outputs off, timers stopped, work abandoned. -/
theorem quiesce_stops (s : State) (p : Power) :
    let t := (quiesce s).setPower p
    t.power = p ∧ t.li.service = none ∧ t.li.queue = [] ∧ t.odo.timer = none ∧ t.ct.stab = none ∧
      t.aa.offer = none ∧ t.aa.p1.timer = none ∧ t.aa.p2.timer = none ∧ t.aa.p4.timer = none ∧
      (∀ k, (t.ac.get k).drive = .off ∧ (t.ac.get k).solenoid = false ∧ (t.ac.get k).conv = .none ∧
        (t.ac.get k).lockT = none ∧ (t.ac.get k).homingT = none ∧ (t.ac.get k).settle = none ∧
        (t.ac.get k).centringT = none) ∧
      t.path = { atPfu := [], atRw := [], atSs := [], corrections := [], marks := [] } ∧ t.pending = s.pending := by
  have quiet (k : Chan) : ((quiesce s).setPower p).ac.get k = (s.ac.get k).quiet := Quad.get_build _ k
  refine ⟨rfl, rfl, rfl, rfl, rfl, rfl, rfl, rfl, rfl, fun k => ?_, rfl, rfl⟩
  rw [quiet]
  exact ⟨rfl, rfl, rfl, rfl, rfl, rfl, rfl⟩

/-- Only reset, loss of supply and a power-on reset act on a part that is not on. -/
theorem exec_off (hoff : s.power ≠ .on) {c : Instr} (hr : c ≠ .resetAsserted) (hs : c ≠ .supplyLoss)
    (hp : ∀ a p, c ≠ .powerOnReset a p) : exec c s = .next s := by
  have off {f : State → State} (he : exec c s = runEvent f s) : exec c s = .next s :=
    he.trans (congrArg _ (whenOn_off hoff))
  cases c
  case resetAsserted => exact absurd rfl hr
  case supplyLoss => exact absurd rfl hs
  case powerOnReset a p => exact absurd rfl (hp a p)
  all_goals exact off rfl

/-- Settles O38. -/
theorem resetAndSupply : Obligations.ResetAndSupply := by
  intro s stopped
  refine ⟨⟨_, rfl, quiesce_stops s _⟩, fun h => ⟨_, congrArg Host.Outcome.next (if_neg h), quiesce_stops s _⟩, fun h =>
    congrArg Host.Outcome.next (if_pos h), fun h c hr hs hp => exec_off h hr hs hp, fun straps pins => ⟨powerOnReset straps pins s, rfl, ?_⟩⟩
  refine ⟨rfl, rfl, rfl, rfl, rfl, rfl, rfl, rfl, rfl, rfl, rfl, rfl, rfl, fun k => ?_, fun k => ?_, rfl, rfl, rfl, rfl, rfl,
    fun k => ?_, rfl, rfl, rfl, rfl, rfl, rfl⟩
  · cases k <;> rfl
  · cases k <;> rfl
  · cases k <;> rfl

/-! ### Edges and drive periods (R55, R95, R211) -/

/-- The sense of an edge: signal A leads when A changes to differ from B, or B changes to agree with A (R211). -/
theorem TachoEdge.step_eq (sig : TachoSignal) (a b : Bool) :
    TachoEdge.step ⟨sig, a, b⟩ = if (sig = .a ∧ a ≠ b) ∨ (sig = .b ∧ a = b) then 1 else -1 := by
  cases sig <;> simp [TachoEdge.step]

theorem Quad.set_self {α : Type} (q : Quad α) (k : Chan) : q.set k (q.get k) = q := by cases k <;> rfl

theorem Drive.periodStart_of_none_waiting {d : Drive} (h : ∀ applied duty, d ≠ .energised applied (some duty)) :
    d.periodStart = d := by
  cases d with
  | off => rfl
  | energised applied waiting =>
    cases waiting with
    | none => rfl
    | some duty => exact absurd rfl (h applied duty)

/-- Settles O39. -/
theorem edgesCountAndPeriodsApply : Obligations.EdgesCountAndPeriodsApply := by
  intro s hon
  refine ⟨fun hm x e => exec_event_eq (f := tachoCount x e) hon (if_pos hm), fun hm sig a b => ?_, fun k applied duty hk => ?_,
    fun k hk => ?_⟩
  · have counts (x : Tacho) : exec (.tachoCount x ⟨sig, a, b⟩) s = .next (s.setOdo { s.odo with
        acc := s.odo.acc.set x (s.odo.acc.get x + TachoEdge.step ⟨sig, a, b⟩) }) :=
      exec_event_eq (f := tachoCount x ⟨sig, a, b⟩) hon (if_neg hm)
    rw [counts, counts, TachoEdge.step_eq]
    exact ⟨rfl, rfl⟩
  · refine exec_event_eq (f := drivePeriodStart k) hon ?_
    simp only [drivePeriodStart, hk, Drive.periodStart]
    rfl
  · refine exec_event_eq (f := drivePeriodStart k) hon ?_
    simp only [drivePeriodStart, Drive.periodStart_of_none_waiting (hk)]
    exact congrArg s.setAc (Quad.set_self s.ac k)

end Sys2Proof.Machine

/-! # Route requests by their fields, holds and gain -/

namespace Sys2Proof.Machine

variable {s : State}

/-! ### The fields of a segment (R4, R20) -/

/-- The kind, presence bits, curvatures and cap of a segment, as R4 and R20 have them for its geometry. -/
def SpellsGeometry (f : SegmentFields) (geo : Geometry) : Prop :=
  (f.kind = 1 ∧ f.marker % 8 = 0 ∧ geo = .straight) ∨
    (f.kind = 2 ∧ f.marker % 8 = 1 ∧ f.kStart.natAbs ≤ 125000 ∧ geo = .arc f.kStart) ∨
    (f.kind = 3 ∧ f.marker % 8 = 3 ∧ f.kStart.natAbs ≤ 125000 ∧ f.kEnd.natAbs ≤ 125000 ∧ geo = .spiral f.kStart f.kEnd) ∨
    (f.kind = 4 ∧ f.marker % 8 = 5 ∧ f.kStart.natAbs ≤ 125000 ∧ f.cap ≤ 800 ∧ geo = .junction f.kStart f.cap)

/-- The beacon of a segment, or none, as its beacon bit and its beacon fields have it. -/
def CarriesBeacon (f : SegmentFields) (beacon : Option Beacon) : Prop :=
  (f.marker < 8 ∧ beacon = none) ∨
    (8 ≤ f.marker ∧ f.marker < 16 ∧ 1 ≤ f.beaconId ∧ f.beaconId ≤ 65535 ∧ f.beaconOffset < f.length ∧
      beacon = some ⟨f.beaconId, f.beaconOffset, .pending⟩)

theorem curvatureOk_iff {κ : Int} : curvatureOk κ = true ↔ κ.natAbs ≤ 125000 := by simp [curvatureOk]; omega

theorem segGeometry_iff {f : SegmentFields} {geo : Geometry} : segGeometry f = some geo ↔ SpellsGeometry f geo := by
  unfold segGeometry SpellsGeometry
  simp only [curvatureOk_iff]
  split_ifs with h1 h2 h3 h4
  · simp [h1, eq_comm]
  · simp [h2, eq_comm]
  · simp [h3, eq_comm]
  · simp [h4, eq_comm]
  · simp only [false_iff]
    tauto

theorem segHasBeacon_iff {f : SegmentFields} (hm : f.marker < 16) : segHasBeacon f = true ↔ 8 ≤ f.marker := by
  simp only [segHasBeacon, beq_iff_eq]; omega

/-- A segment as requested is a record of the window exactly when its fields are in range, spell a geometry and carry their
beacon. -/
theorem segmentOf_iff {f : SegmentFields} {front : Nat} {g : Segment} : segmentOf f front = some g ↔
    100 ≤ f.length ∧ f.length ≤ 500000 ∧ front + f.length ≤ 1000000000 ∧
      ∃ geo beacon, SpellsGeometry f geo ∧ CarriesBeacon f beacon ∧ g = ⟨f.index, geo, f.length, beacon⟩ := by
  have beacon_iff (hm : f.marker < 16) (hb : segBeaconOk f = true) (beacon : Option Beacon) : CarriesBeacon f beacon ↔
      beacon = if segHasBeacon f then some ⟨f.beaconId, f.beaconOffset, .pending⟩ else none := by
    unfold CarriesBeacon
    cases hc : segHasBeacon f
    · have : ¬8 ≤ f.marker := fun h => by simp [(segHasBeacon_iff hm).2 h] at hc
      simp only [this, false_and, or_false, Bool.false_eq_true, if_false, and_iff_right (Nat.lt_of_not_le this)]
    · have h8 := (segHasBeacon_iff hm).1 hc
      simp only [segBeaconOk, hc, Bool.not_true, Bool.false_or, Bool.and_eq_true, decide_eq_true_eq] at hb
      simp [h8, hm, hb, Nat.not_lt.2 h8]
  have beaconOk {beacon : Option Beacon} (hc : CarriesBeacon f beacon) : f.marker < 16 ∧ segBeaconOk f = true := by
    rcases hc with ⟨hm, -⟩ | ⟨h8, hm, h1, h2, h3, -⟩
    · have hlt : f.marker < 16 := by omega
      have : segHasBeacon f = false := Bool.eq_false_iff.2 fun h => absurd ((segHasBeacon_iff hlt).1 h) (by omega)
      exact ⟨hlt, by simp [segBeaconOk, this]⟩
    · exact ⟨hm, by simp [segBeaconOk, h1, h2, h3]⟩
  constructor
  · intro h
    unfold segmentOf at h
    by_cases hr : 100 ≤ f.length ∧ f.length ≤ 500000 ∧ f.marker < 16 ∧ segBeaconOk f = true ∧
      front + f.length ≤ Config.frontMax
    case neg => rw [if_neg hr] at h; exact absurd h nofun
    rw [if_pos hr] at h
    obtain ⟨hlo, hhi, hm, hb, hmax⟩ := hr
    obtain ⟨geo, hg, rfl⟩ := Option.map_eq_some_iff.1 h
    exact ⟨hlo, hhi, hmax, geo, _, segGeometry_iff.1 hg, (beacon_iff hm hb _).2 rfl, rfl⟩
  · rintro ⟨hlo, hhi, hmax, geo, beacon, hg, hc, rfl⟩
    obtain ⟨hm, hb⟩ := beaconOk hc
    unfold segmentOf
    rw [if_pos ⟨hlo, hhi, hm, hb, hmax⟩, segGeometry_iff.2 hg, (beacon_iff hm hb beacon).1 hc, Option.map_some]

/-! ### OPEN_ROUTE, APPEND_SEGMENT and PLACE (R16, R19, R85) -/

/-- APPEND_SEGMENT from the holder, by the checks of R19 in order. -/
theorem takeAppendSegment_holder {m : Master} (hh : holds s m = true) (f : SegmentFields) : takeAppendSegment m f s =
    if s.rw.isOpen = false then ⟨s, .noRoute, windowItems s⟩
    else if f.index ≠ s.rw.next then ⟨s, .outOfOrder, windowItems s⟩
    else if 48 ≤ s.rw.segs.length then ⟨s, .windowFull, windowItems s⟩
    else match segmentOf f s.rw.front with
      | none => ⟨s, .badValue, windowItems s⟩
      | some g => ⟨s.setRw (s.rw.append g), .ok, windowItems (s.setRw (s.rw.append g))⟩ := by
  unfold takeAppendSegment
  simp only [hh, Bool.not_true, Bool.false_eq_true, if_false, Bool.not_eq_true', Config.windowCapacity]
  rfl

/-- PLACE from the holder, by the checks of R85 in order. -/
theorem takePlace_holder {m : Master} (hh : holds s m = true) (r u : Nat) : takePlace m r u s =
    if s.rw.isOpen = false then .refuse s .noRoute
    else if r ≤ 999999999 ∧ u ≤ 65535 then ⟨place r u s, .ok, []⟩ else .refuse s .badValue := by
  have range : (!(decide (r ≤ Config.distanceMax) && decide (u ≤ 65535))) = true ↔ ¬(r ≤ 999999999 ∧ u ≤ 65535) := by
    rw [Bool.not_eq_true', ← Bool.not_eq_true, Bool.and_eq_true, decide_eq_true_eq, decide_eq_true_eq]; rfl
  simp only [takePlace, hh, Bool.not_true, Bool.false_eq_true, if_false, Bool.not_eq_true', range, ite_not]

theorem openRouteInRange_eq_false {f : OpenRouteFields} (h : leadOf f.lead = none ∨ 999999999 < f.r0 ∨ 65535 < f.firstIndex ∨
    999999999 < f.rRef ∨ 65535 < f.u0) : openRouteInRange f = false := by
  refine Bool.eq_false_iff.2 fun hr => ?_
  obtain ⟨hl, h1, h2, h3, h4⟩ := openRouteInRange_iff.1 hr
  rcases h with h | h
  · simp [h] at hl
  · omega

/-- Settles O15. -/
theorem routeRequestsRefusedInOrder : Obligations.RouteRequestsRefusedInOrder := by
  intro h s hr hd hh
  have holder : holds (received h s) h.src = true := (holds_received_eq h s).trans hh
  have append (f : SegmentFields) := takeAppendSegment_holder holder f
  have place (r u : Nat) := takePlace_holder holder r u
  refine ⟨fun f hst hf => exec_answer rfl hr hd ?_, fun f ho => exec_answer rfl hr hd ((append f).trans ?_),
    fun f ho hn => exec_answer rfl hr hd ((append f).trans ?_), fun f ho hn hl => exec_answer rfl hr hd ((append f).trans ?_),
    fun f ho hn hl hf => exec_answer rfl hr hd ((append f).trans ?_), fun r u ho => exec_answer rfl hr hd ((place r u).trans ?_),
    fun r u ho hf => exec_answer rfl hr hd ((place r u).trans ?_)⟩
  · have stands : atStandstill (received h s) = true := by simp [atStandstill, hst]
    simp [ownerTakes, takeOpenRoute, holder, stands, openRouteInRange_eq_false hf, Taken.refuse]
  · rw [if_pos (by exact ho)]; rfl
  · rw [if_neg (by simp [ho]), if_pos (by exact hn)]; rfl
  · rw [if_neg (by simp [ho]), if_neg (by simpa using hn), if_pos (by exact hl)]; rfl
  · have invalid : segmentOf f s.rw.front = none := by
      refine Option.eq_none_iff_forall_ne_some.2 fun g hg => ?_
      obtain ⟨hlo, hhi, hmax, geo, beacon, hgeo, hbeacon, -⟩ := segmentOf_iff.1 hg
      unfold SpellsGeometry at hgeo
      unfold CarriesBeacon at hbeacon
      omega
    rw [if_neg (by simp [ho]), if_neg (by simpa using hn), if_neg (by simpa using hl), received_rw, invalid]; rfl
  · rw [if_pos (by exact ho)]; rfl
  · rw [if_neg (by simp [ho]), if_neg (by omega)]; rfl

/-- Settles O16. -/
theorem appendJoinsAtTheFront : Obligations.AppendJoinsAtTheFront := by
  intro h f geo beacon s hr hd hh ho hn hl hlo hhi hmax hgeo hbeacon
  have holder : holds (received h s) h.src = true := (holds_received_eq h s).trans hh
  have valid : segmentOf f (received h s).rw.front = some ⟨f.index, geo, f.length, beacon⟩ :=
    segmentOf_iff.2 ⟨hlo, hhi, hmax, geo, beacon, hgeo, hbeacon, rfl⟩
  refine exec_answer rfl hr hd ((takeAppendSegment_holder holder f).trans ?_)
  rw [if_neg (by simp [ho]), if_neg (by simpa using hn), if_neg (by simpa using hl), valid]
  simp [windowItems, Rw.append, Config.wrap16]

end Sys2Proof.Machine

/-! # Reads and replies -/

namespace Sys2Proof.Machine

variable {s : State}

/-! ### The start of a reply (R172, R173) -/

/-- The state in which a reply that may start has started. -/
theorem replyStart_of_mayReply {v : Service} (hv : s.li.service = some v) (hm : s.li.mayReply v = true) : replyStart s =
    (s.setSv { s.sv with notice := noticesAfter v s }).setLi { s.li.flag .stopped s.li.inFrame with
      service := some { v with reply := some (composeReply v s) }, overrun := false } := by
  unfold replyStart; rw [hv]; exact if_pos hm

theorem exec_replyStart_idle (hon : s.power = .on) (h : ∀ v, s.li.service = some v → s.li.mayReply v = false) :
    exec .replyStart s = .next s := exec_event_eq hon (replyStart_of_not_mayReply h)

/-! ### The items of the reads (R175 to R179) -/

/-- The record at a position of the window, with the sum of the lengths before it (R178). -/
theorem recordAt_eq (start : Nat) (segs : List Segment) (n : Nat) : recordAt start segs n =
    segs[n]?.map fun g => (g, start + ((segs.take n).map fun g => g.length).sum) := by
  induction segs generalizing start n with
  | nil => simp [recordAt]
  | cons g gs ih =>
    cases n with
    | zero => simp [recordAt]
    | succ n => simp [recordAt, ih, Nat.add_assoc]

/-- What READ_WINDOW reads: the record at the position, or the empty mark (R178). -/
theorem windowRecordItems_eq (n : Nat) (s : State) : windowRecordItems n s = match s.rw.segs[n]? with
    | some g => g.bytes (s.rw.rear + ((s.rw.segs.take n).map fun g => g.length).sum)
    | none => [0#8] := by
  unfold windowRecordItems
  rw [recordAt_eq]
  cases s.rw.segs[n]? <;> rfl

/-- READ_CHANNEL's judgement of its channel number (R177). -/
theorem chanOf_isSome {n : Nat} : (chanOf n).isSome = true ↔ 1 ≤ n ∧ n ≤ 4 := by
  match n with
  | 0 | 1 | 2 | 3 | 4 => decide
  | n + 5 => simp [chanOf]

/-- A read is judged in RUN and in WAKING alike (R171). -/
theorem exec_read {i : Instr} {h : Hdr} {req : Request} {ok : Bool} (hi : i.asRequest = some (h, req)) (hr : Ready s)
    (hd : h.dest = .addressed) {k : Kind} (hk : req.kind = some k) (hread : k.isRead = true)
    (ho : ∀ t, ownerTakes h.src req t = takeRead ok t) :
    exec i s = .next (inService h req (if ok then .ok else .badValue) [] (received h s)) := by
  have judged : judge h.src req (received h s) = takeRead ok (received h s) := by
    unfold judge; rw [hk]
    exact (if_neg (by simp [hread])).trans (ho _)
  rw [exec_judged hi hr hd judged]
  cases ok <;> rfl

/-- The bytes of a fault record, field by field (R179). -/
theorem faultRecord_bytes (f : FaultRecord) : f.bytes = beBytes 1 f.code.code ++
    beBytes 1 (match f.subject with
      | .none => 0
      | .chan .c1 => 1
      | .chan .c2 => 2
      | .chan .c3 => 3
      | .chan .c4 => 4
      | .tacho .t1 => 1
      | .tacho .t2 => 2) ++
    beBytes 1 ((if f.active then 1 else 0) + if f.distance.isSome then 2 else 0) ++
    beBytes 4 (f.distance.getD 0) ++ beBytes 2 f.frame := by
  have subject : f.subject.code = (match f.subject with
      | .none => 0
      | .chan .c1 => 1
      | .chan .c2 => 2
      | .chan .c3 => 3
      | .chan .c4 => 4
      | .tacho .t1 => 1
      | .tacho .t2 => 2) := by
    rcases f.subject with _ | k | x
    · rfl
    · cases k <;> rfl
    · cases x <;> rfl
  unfold FaultRecord.bytes
  rw [subject]
  rfl

/-- Settles O28. -/
theorem readsAreTakenAtReplyStart : Obligations.ReadsAreTakenAtReplyStart := by
  intro h s hr hm hd
  refine ⟨exec_read (ok := true) rfl hr hd rfl rfl fun _ => rfl, exec_read (ok := true) rfl hr hd rfl rfl fun _ => rfl, fun n => ?_,
    fun n => exec_read (ok := true) rfl hr hd rfl rfl fun _ => rfl, fun n => ?_, fun req age t hon hline hones hage hv => ?_,
    rfl, rfl, rfl, rfl, rfl, rfl, rfl, rfl, rfl, rfl, rfl⟩
  · rw [exec_read rfl hr hd rfl rfl fun _ => rfl]
    simp only [chanOf_isSome]
  · rw [exec_read rfl hr hd rfl rfl fun _ => rfl]
    simp only [decide_eq_true_eq]
  · refine ⟨_, composeReply _ t, exec_event_eq hon (replyStart_of_mayReply hv (mayReply_iff.2 ⟨rfl, hline, hones, hage⟩)),
      rfl, ?_, ?_, ?_, ?_, ?_, ?_⟩
    · rintro rfl; rfl
    · rintro rfl; rfl
    · rintro n k rfl hk
      have items : (composeReply ⟨h, .readChannel n, age, .ok, [], none⟩ t).items = channelItems k t := by
        simp only [composeReply, replyItems, hk]
      rw [items]
      exact ⟨fun hf => if_neg (by simp [hf]), fun hf => if_pos hf⟩
    · rintro n g rfl hg
      have items : (composeReply ⟨h, .readWindow n, age, .ok, [], none⟩ t).items =
          g.bytes (t.rw.rear + ((t.rw.segs.take n).map fun g => g.length).sum) :=
        (windowRecordItems_eq n t).trans (by rw [hg])
      rw [items]
      unfold Segment.bytes
      cases g.beacon with
      | none => cases g.geo <;> rfl
      | some b => cases g.geo <;> dsimp only <;> rw [Nat.mul_comm b.status.code 16] <;> rfl
    · rintro n rfl hn
      exact (windowRecordItems_eq n t).trans (by rw [List.getElem?_eq_none hn])
    · rintro n rfl
      show faultItems n t = _
      unfold faultItems
      simp only [funext faultRecord_bytes]
      rfl

/-! ### The summary in bytes (R174, section 12.5) -/

/-- Three fields of two, three and three bits in a byte, read back. -/
theorem byte_of_233 {a b c : Nat} (ha : a < 4) (hb : b < 8) (hc : c < 8) :
    let x := (BitVec.ofNat 8 (a * 64 + b * 8 + c)).toNat
    (x / 64, x / 8 % 8, x % 8) = (a, b, c) := by
  simp only [BitVec.toNat_ofNat, Prod.mk.injEq]
  omega

theorem bit_eq (b : Bool) (n : Nat) : bit b n = if b = true then n else 0 := rfl

/-- Two flags and three fields of two bits in a byte, read back. -/
theorem byte_of_flags_fields (a b : Bool) {c d e : Nat} (hc : c < 4) (hd : d < 4) (he : e < 4) :
    let x := (BitVec.ofNat 8 (bit a 128 + bit b 64 + c * 16 + d * 4 + e)).toNat
    x / 128 = (if a then 1 else 0) ∧ x / 64 % 2 = (if b then 1 else 0) ∧ x / 16 % 4 = c ∧ x / 4 % 4 = d ∧ x % 4 = e := by
  simp only [BitVec.toNat_ofNat, bit_eq]
  split_ifs <;> omega

/-- Five flags in a byte, read back. -/
theorem byte_of_flags (a b c d e : Bool) :
    let x := (BitVec.ofNat 8 (bit a 128 + bit b 64 + bit c 32 + bit d 16 + bit e 8)).toNat
    x / 128 = (if a then 1 else 0) ∧ x / 64 % 2 = (if b then 1 else 0) ∧ x / 32 % 2 = (if c then 1 else 0) ∧
      x / 16 % 2 = (if d then 1 else 0) ∧ x / 8 % 2 = (if e then 1 else 0) ∧ x % 8 = 0 := by
  simp only [BitVec.toNat_ofNat, bit_eq]
  split_ifs <;> omega

theorem address_lt (m : Master) : m.address < 8 := by cases m <;> decide

theorem beBytes_one (n : Nat) : beBytes 1 n = [BitVec.ofNat 8 n] := by simp [beBytes]

/-- The content of a reply frame: header, payload and check (R172, R208). -/
theorem replyFrame_content (own : Nat) (v : Service) (r : Reply) :
    let body := BitVec.ofNat 8 v.hdr.src.address :: BitVec.ofNat 8 own :: BitVec.ofNat 8 v.req.kindCode ::
      (replyFrame own v r).payload
    (replyFrame own v r).content = body ++ checkBytes body := by
  simp [RawFrame.content, RawFrame.body, replyFrame, beBytes_one]

/-- The three bytes of the summary hold its items (section 12.5). -/
theorem summary_bytes (m : Summary) : ∃ b0 b1 b2 : Byte, m.bytes = [b0, b1, b2] ∧
    (b0.toNat / 64, b0.toNat / 8 % 8, b0.toNat % 8) =
      (match m.auth with
        | .vacant => (0, 0, 0)
        | .held m => (1, m.address, 0)
        | .offered m n => (2, m.address, n.address)) ∧
    b1.toNat / 128 = (if m.mode = .run then 1 else 0) ∧ b1.toNat / 64 % 2 = (if m.routeOpen then 1 else 0) ∧
    b1.toNat / 16 % 4 = m.conf.code ∧ b1.toNat / 4 % 4 = m.steering.code ∧ b1.toNat % 4 = m.level.code ∧
    b2.toNat / 128 = (if m.latch then 1 else 0) ∧ b2.toNat / 64 % 2 = (if m.horizonLow then 1 else 0) ∧
    b2.toNat / 32 % 2 = (if m.notice then 1 else 0) ∧ b2.toNat / 16 % 2 = (if m.listFull then 1 else 0) ∧
    b2.toNat / 8 % 2 = (if m.overrun then 1 else 0) ∧ b2.toNat % 8 = 0 := by
  refine ⟨_, _, _, rfl, ?_, ?_⟩
  · cases m.auth with
    | vacant => exact byte_of_233 (a := 0) (b := 0) (c := 0) (by omega) (by omega) (by omega)
    | held h => exact byte_of_233 (a := 1) (c := 0) (by omega) (address_lt h) (by omega)
    | offered h n => exact byte_of_233 (a := 2) (by omega) (address_lt h) (address_lt n)
  · have conf : m.conf.code < 4 := by cases m.conf <;> decide
    have steering : m.steering.code < 4 := by cases m.steering <;> decide
    have level : m.level.code < 4 := by cases m.level <;> decide
    obtain ⟨h1, h2, h3, h4, h5⟩ := byte_of_flags_fields (m.mode == .run) m.routeOpen conf steering level
    refine ⟨h1.trans ?_, h2, h3, h4, h5, byte_of_flags m.latch m.horizonLow m.notice m.listFull m.overrun⟩
    simp only [beq_iff_eq]

/-! ### Kinds and codes (section 12.2) -/

/-- A request's kind byte is its kind's. -/
theorem kindCode_of_kind {req : Request} {k : Kind} (h : req.kind = some k) : req.kindCode = k.code := by
  cases req <;> simp only [Request.kind, Option.some.injEq, reduceCtorEq] at h <;> subst h <;> rfl

theorem reachesEnd_iff {p n : Nat} : reachesEnd p n = true ↔ n = 0 ∨ n = p + 1 ∨ n = p + 2 := by
  simp only [reachesEnd, Bool.or_eq_true, beq_iff_eq]; omega

/-- Only a read answered OK takes its items at the start of the reply (R172). -/
theorem replyItems_of_not_read {v : Service} {k : Kind} (hk : v.req.kind = some k) (hr : k.isRead = false) (s : State) :
    replyItems v s = v.items := by
  unfold replyItems
  split
  case h_6 => rfl
  all_goals
    have hreq := ‹v.req = _›
    rw [hreq] at hk
    obtain rfl := Option.some.inj hk
    exact absurd hr (by decide)

theorem replyItems_of_refused {v : Service} (h : v.result ≠ .ok) (s : State) : replyItems v s = v.items := by
  unfold replyItems
  split <;> simp_all

theorem noticesAfter_eq (v : Service) (s : State) : noticesAfter v s =
    match v.result, v.req with
    | .ok, .readFaults p =>
      if s.sv.faults.length = 0 ∨ s.sv.faults.length = p + 1 ∨ s.sv.faults.length = p + 2 then s.sv.notice.clear v.hdr.src
      else s.sv.notice
    | _, _ => s.sv.notice := by
  unfold noticesAfter
  simp only [reachesEnd_iff] <;> rfl

/-- Settles O29. -/
theorem replyStartTakesTheSummary : Obligations.ReplyStartTakesTheSummary := by
  intro s hon
  refine ⟨fun v hv hnone hline hones hage => ?_, fun hv => exec_replyStart_idle hon fun v h => ?_, fun v hv h =>
    exec_replyStart_idle hon fun w hw => ?_, fun h => exec_replyStart_idle hon fun v hv => ?_, rfl, rfl, fun req k hk => ?_⟩
  · refine ⟨_, composeReply v s, exec_event_eq hon (replyStart_of_mayReply hv (mayReply_iff.2 ⟨hnone, hline, hones, hage⟩)),
      rfl, rfl, rfl, ⟨replyFrame_content _ _ _, ?_⟩, fun h => replyItems_of_refused h s, fun k hk hr =>
      replyItems_of_not_read hk hr s, ?_, rfl, rfl, rfl, rfl, rfl, rfl, rfl, rfl, rfl⟩
    · obtain ⟨b0, b1, b2, hb, rest⟩ := summary_bytes (summaryFor v.hdr.src s)
      refine ⟨b0, b1, b2, ?_, ?_⟩
      · show BitVec.ofNat 8 v.result.code :: ((summaryFor v.hdr.src s).bytes ++ _) = _
        rw [hb]; rfl
      · obtain ⟨h0, h1, h2, h3, h4, h5, flags⟩ := rest
        refine ⟨h0, h1, h2, h3.trans ?_, h4.trans ?_, h5.trans ?_, flags⟩
        · cases hc : s.pfu.conf <;> simp [summaryFor, hc, Confidence.code]
        · cases hc : s.sv.steering <;> simp [summaryFor, hc, SteeringMode.code]
        · cases hc : s.sv.level <;> simp [summaryFor, hc, Level.code]
    · show ({ s.sv with notice := noticesAfter v s } : Sv) = _
      rw [noticesAfter_eq] <;> rfl
  · simp [hv] at h
  · obtain rfl := Option.some.inj (hv.symm.trans hw)
    refine Bool.eq_false_iff.2 fun hm => ?_
    obtain ⟨hnone, -, -, hage⟩ := mayReply_iff.1 hm
    exact h.elim (· hnone) (by omega)
  · refine Bool.eq_false_iff.2 fun hm => ?_
    obtain ⟨-, hline, hones, -⟩ := mayReply_iff.1 hm
    rcases h with h | h
    · rw [hline] at h; exact absurd h nofun
    · omega
  · rw [kindCode_of_kind hk]
    cases k <;> decide

end Sys2Proof.Machine

/-! # Requests as bytes, frames as bits, and what the receiver makes of them -/

namespace Sys2Proof.Machine

/-! ### Numbers in bytes (R208) -/

theorem beNat_beBytes_mod (n v : Nat) : beNat (beBytes n v) = v % 256 ^ n := by
  induction n with
  | zero => simp [beBytes, beNat, Nat.mod_one]
  | succ n ih =>
    rw [beBytes, beNat, ih, beBytes_length, BitVec.toNat_ofNat, pow_succ (256 : Nat) n, Nat.mod_mul (a := 256 ^ n)]
    ring

theorem beNat_beBytes {n v : Nat} (h : fitsU n v = true) : beNat (beBytes n v) = v := by
  rw [beNat_beBytes_mod, Nat.mod_eq_of_lt (of_decide_eq_true h)]

theorem beInt_beSigned_two {v : Int} (h : fitsS 2 v = true) : beInt (beSigned 2 v) = v := by
  simp only [fitsS, Bool.and_eq_true, decide_eq_true_eq] at h
  simp only [beInt, beSigned, beNat_beBytes_mod, beBytes_length]
  norm_num at h ⊢
  split_ifs <;> omega

theorem beInt_beSigned_four {v : Int} (h : fitsS 4 v = true) : beInt (beSigned 4 v) = v := by
  simp only [fitsS, Bool.and_eq_true, decide_eq_true_eq] at h
  simp only [beInt, beSigned, beNat_beBytes_mod, beBytes_length]
  norm_num at h ⊢
  split_ifs <;> omega

/-! ### Requests in bytes (R208) -/

/-- The statement of the layout rule holds of every request row. -/
theorem payload_layout {i : Instr} {h : Hdr} {req : Request} (hi : i.asRequest = some (h, req)) :
    ∃ k, req.kind = some k ∧ kindOf req.kindCode = some k ∧ req.payload.length = k.requestLength := by
  cases i <;> simp only [Instr.asRequest, Option.some.injEq, Prod.mk.injEq, reduceCtorEq] at hi <;>
    obtain ⟨rfl, rfl⟩ := hi <;> exact ⟨_, rfl, rfl, rfl⟩

/-- The fields read from the payload of a well-formed request are its own. -/
theorem fields_payload {i : Instr} {h : Hdr} {req : Request} {k : Kind} (hw : i.wellFormed = true)
    (hi : i.asRequest = some (h, req)) (hk : req.kind = some k) : k.fields req.payload = req := by
  cases i <;> simp only [Instr.asRequest, Option.some.injEq, Prod.mk.injEq, reduceCtorEq] at hi <;>
    obtain ⟨rfl, rfl⟩ := hi <;> obtain rfl := Option.some.inj hk <;>
    simp only [Instr.wellFormed, Bool.and_eq_true, OpenRouteFields.fits, SegmentFields.fits] at hw
  case openRoute f =>
    obtain ⟨⟨⟨⟨h1, h2⟩, h3⟩, h4⟩, h5⟩ := hw
    show Request.openRoute ⟨beNat (beBytes 1 _), beNat (beBytes 4 _), beNat (beBytes 2 _), beNat (beBytes 4 _),
      beNat (beBytes 2 _)⟩ = _
    rw [beNat_beBytes h1, beNat_beBytes h2, beNat_beBytes h3, beNat_beBytes h4, beNat_beBytes h5]
  case appendSegment f =>
    obtain ⟨⟨⟨⟨⟨⟨⟨⟨h1, h2⟩, h3⟩, h4⟩, h5⟩, h6⟩, h7⟩, h8⟩, h9⟩ := hw
    show Request.appendSegment ⟨beNat (beBytes 2 _), beNat (beBytes 1 _), beNat (beBytes 1 _), beNat (beBytes 4 _),
      beInt (beSigned 4 _), beInt (beSigned 4 _), beNat (beBytes 2 _), beNat (beBytes 2 _), beNat (beBytes 4 _)⟩ = _
    rw [beNat_beBytes h1, beNat_beBytes h2, beNat_beBytes h3, beNat_beBytes h4, beInt_beSigned_four h5,
      beInt_beSigned_four h6, beNat_beBytes h7, beNat_beBytes h8, beNat_beBytes h9]
  case speedReference v flags =>
    show Request.speedReference (beInt (beSigned 2 _)) (beNat (beBytes 1 _)) = _
    rw [beInt_beSigned_two hw.1, beNat_beBytes hw.2]
  case place r u =>
    show Request.place (beNat (beBytes 4 _)) (beNat (beBytes 2 _)) = _
    rw [beNat_beBytes hw.1, beNat_beBytes hw.2]
  case setConfig p c v =>
    obtain ⟨⟨h1, h2⟩, h3⟩ := hw
    show Request.setConfig (beNat (beBytes 1 _)) (beNat (beBytes 1 _)) (beInt (beSigned 4 _)) = _
    rw [beNat_beBytes h1, beNat_beBytes h2, beInt_beSigned_four h3]
  case calibrate => exact congrArg Request.calibrate (beNat_beBytes hw)
  case hold => exact congrArg Request.hold (beNat_beBytes hw)
  case offer => exact congrArg Request.offer (beNat_beBytes hw)
  case readChannel => exact congrArg Request.readChannel (beNat_beBytes hw)
  case readWindow => exact congrArg Request.readWindow (beNat_beBytes hw)
  case readFaults => exact congrArg Request.readFaults (beNat_beBytes hw)
  case setGain => exact congrArg Request.setGain (beNat_beBytes hw)
  all_goals rfl

/-- Settles O33. -/
theorem requestPayloadSpellsTheRequest : Obligations.RequestPayloadSpellsTheRequest := by
  intro i h req hw hi
  obtain ⟨k, hk, hcode, hlen⟩ := payload_layout hi
  simp only [requestOf, hcode, if_pos hlen]
  exact fields_payload hw hi hk

/-! ### Zero insertion, bytes and bits (R164, R165) -/

theorem unstuff_stuffFrom (bits : List Bool) {n : Nat} (hn : n ≤ 4) : unstuffFrom n (stuffFrom n bits) = some bits := by
  induction bits generalizing n with
  | nil => rfl
  | cons b bs ih =>
    cases b with
    | false => simp [stuffFrom, unstuffFrom, ih (Nat.zero_le 4), show n ≠ 5 by omega]
    | true =>
      by_cases h4 : n = 4
      · simp [stuffFrom, unstuffFrom, ih (Nat.zero_le 4), h4]
      · simp [stuffFrom, unstuffFrom, ih (show n + 1 ≤ 4 by omega), h4, show n ≠ 5 by omega]

/-- Six ones in a row are no content (R164). -/
theorem unstuff_six_ones (before after : List Bool) {n : Nat} (hn : n ≤ 5) :
    unstuffFrom n (before ++ List.replicate 6 true ++ after) = none := by
  induction before generalizing n with
  | nil =>
    show unstuffFrom n (true :: true :: true :: true :: true :: true :: after) = none
    interval_cases n <;> simp [unstuffFrom]
  | cons b bs ih =>
    cases b with
    | false =>
      by_cases h5 : n = 5
      · rw [h5]; exact ih (Nat.zero_le 5)
      · simp only [List.cons_append, unstuffFrom, h5, if_false]
        rw [ih (Nat.zero_le 5)]; rfl
    | true =>
      by_cases h5 : n = 5
      · rw [h5]; rfl
      · simp only [List.cons_append, unstuffFrom, h5, if_false]
        rw [ih (by omega)]; rfl

/-- The number a byte's bits spell is the byte's. -/
theorem bitsValue_byteBits (b : Byte) : BitVec.ofNat 8 (bitsValue (byteBits b)) = b := by
  revert b; decide

theorem bytesOfBits_bitsOfBytes (bs : List Byte) : bytesOfBits (bitsOfBytes bs) = some bs := by
  induction bs with
  | nil => rfl
  | cons b bs ih =>
    show (bytesOfBits (bitsOfBytes bs)).map (BitVec.ofNat 8 (bitsValue (byteBits b)) :: ·) = _
    rw [ih, bitsValue_byteBits]; rfl

/-- The bytes of bits are an eighth of them. -/
theorem bytesOfBits_length {bits : List Bool} {bytes : List Byte} (h : bytesOfBits bits = some bytes) :
    bits.length = 8 * bytes.length := by
  induction bits using bytesOfBits.induct generalizing bytes with
  | case1 => obtain rfl := Option.some.inj h; rfl
  | case2 b7 b6 b5 b4 b3 b2 b1 b0 rest ih =>
    obtain ⟨bs, hbs, rfl⟩ := Option.map_eq_some_iff.1 h
    simp only [List.length_cons, ih hbs]; omega
  | case3 bits h0 h8 =>
    unfold bytesOfBits at h
    split at h
    · exact absurd rfl h0
    · exact absurd rfl (h8 _ _ _ _ _ _ _ _ _)
    · exact absurd h nofun

/-! ### The frame of a request (R166, R168) -/

theorem frameOfContent_content {f : RawFrame} (hd : f.dest < 256) (hs : f.src < 256) (hk : f.kind < 256)
    (hl : f.payload.length ≤ 32) : frameOfContent f.content = some f := by
  have length : f.content.length = f.payload.length + 5 := by
    simp [RawFrame.content, RawFrame.body, checkBytes, beBytes_length]; omega
  have check : f.content.length - 2 = f.body.length := by
    simp [RawFrame.content, checkBytes, beBytes_length]
  have drop : f.content.drop f.body.length = checkBytes f.body := List.drop_left
  have take : f.content.take f.body.length = f.body := List.take_left
  unfold frameOfContent
  rw [check, drop, take, if_pos ⟨by omega, by omega, rfl⟩]
  have header : f.content = BitVec.ofNat 8 f.dest :: BitVec.ofNat 8 f.src :: BitVec.ofNat 8 f.kind ::
      (f.payload ++ checkBytes f.body) := by simp [RawFrame.content, RawFrame.body, beBytes_one]
  have payload : slice f.content 3 (f.content.length - 5) = f.payload := by
    rw [length, header]
    exact List.take_left
  have field {n : Nat} (hn : n < 256) : beNat [BitVec.ofNat 8 n] = n := by
    simp [beNat, BitVec.toNat_ofNat, Nat.mod_eq_of_lt hn]
  rw [payload, header]
  show some (RawFrame.mk (beNat [BitVec.ofNat 8 f.dest]) (beNat [BitVec.ofNat 8 f.src]) (beNat [BitVec.ofNat 8 f.kind]) _) = _
  rw [field hd, field hs, field hk]

/-- The bits of a frame as sent spell the frame. -/
theorem frameOfBits_lineBits {f : RawFrame} (hf : frameOfContent f.content = some f) : frameOfBits f.lineBits = some f := by
  have unstuffed : unstuff f.lineBits = some (bitsOfBytes f.content) := unstuff_stuffFrom _ (Nat.zero_le 4)
  unfold frameOfBits
  simp only [unstuffed, bytesOfBits_bitsOfBytes, hf]

theorem masterOf_address (m : Master) : masterOf m.address = some m := by cases m <;> rfl

/-- The frame of a request to this part is accepted from its sender (R168). -/
theorem requestFrame_accepted {own : Nat} (ho : own ≤ 23) (h : Hdr) (req : Request) :
    (requestFrame own h req).accepted own = some h := by
  obtain ⟨src, dest⟩ := h
  have hdest : destOf own (dest.address own) = some dest := by
    cases dest with
    | addressed => exact if_pos rfl
    | broadcast =>
      have : (31 : Nat) ≠ own := by omega
      exact (if_neg this).trans (if_pos rfl)
  unfold RawFrame.accepted requestFrame
  simp only [hdest, masterOf_address]

theorem requestLength_le (k : Kind) : k.requestLength ≤ 24 := by cases k <;> decide

theorem kind_code_lt (k : Kind) : k.code < 256 := by cases k <;> decide

/-- A frame that a receiving part accepts is the reception of its request (R164, R168). -/
theorem frameClosed_accepted {bits : List Bool} {f : RawFrame} {h : Hdr} {s : State} (hr : s.li.receiver = .receiving)
    (hb : bits ≠ []) (hf : frameOfBits bits = some f) (ha : f.accepted s.li.address = some h) :
    frameClosed bits s = receiveRequest h (requestOf f.kind f.payload) s := by
  have runs : s.li.receiver.runs = true := Receiver.runs_iff.2 (.inr hr)
  have accepted : f.accepted (closeReception s).li.address = some h := ha
  rw [frameClosed_receiving hr, if_neg hb]
  simp only [receiveBits, hf, accepted, receiveRequest, runs, if_true]

/-- The bits between two flags are none only where there are no bytes. -/
theorem lineBits_ne_nil {f : RawFrame} (hf : frameOfContent f.content = some f) : f.lineBits ≠ [] := by
  intro h
  have none_spelled : frameOfBits [] = none := rfl
  have hbits := frameOfBits_lineBits hf
  rw [h, none_spelled] at hbits
  exact absurd hbits nofun

/-- Settles O34. -/
theorem frameOnTheLineIsItsRequest : Obligations.FrameOnTheLineIsItsRequest := by
  intro i h req s hw hi hr hlo hhi
  obtain ⟨k, hk, hcode, hlen⟩ := payload_layout hi
  have spelled : frameOfContent (requestFrame s.li.address h req).content = some (requestFrame s.li.address h req) := by
    refine frameOfContent_content ?_ ?_ ?_ ?_
    · show h.dest.address s.li.address < 256
      cases h.dest
      · show s.li.address < 256; omega
      · show 31 < 256; decide
    · have := address_lt h.src; show h.src.address < 256; omega
    · show req.kindCode < 256; rw [kindCode_of_kind hk]; exact kind_code_lt k
    · show req.payload.length ≤ 32; rw [hlen]; have := requestLength_le k; omega
  have closed : frameClosed (requestFrame s.li.address h req).lineBits s = receiveRequest h req s := by
    rw [frameClosed_accepted hr (lineBits_ne_nil spelled) (frameOfBits_lineBits spelled) (requestFrame_accepted hhi h req)]
    show receiveRequest h (requestOf req.kindCode req.payload) s = _
    rw [requestPayloadSpellsTheRequest i h req hw hi]
  rw [exec_request s hi]
  show runEvent _ _ = Host.Outcome.next _
  unfold runEvent
  by_cases hon : s.power = .on
  · rw [whenOn_on hon, whenOn_on hon, closed]
  · rw [whenOn_off hon, whenOn_off hon]

/-! ### Faulty and foreign frames (R165, R168, R171) -/

/-- The kinds with their codes and request lengths (section 12.3). -/
def kindLengths : List (Nat × Nat) := Kind.all.map fun k => (k.code, k.requestLength)

theorem Kind.mem_all (k : Kind) : k ∈ Kind.all := by cases k <;> decide

theorem kindOf_code (k : Kind) : kindOf k.code = some k := by cases k <;> rfl

theorem mem_kindLengths {code n : Nat} : (code, n) ∈ kindLengths ↔ ∃ k, kindOf code = some k ∧ k.requestLength = n := by
  simp only [kindLengths, List.mem_map, Prod.mk.injEq, Kind.mem_all, true_and]
  refine exists_congr fun k => and_congr_left fun _ => ⟨fun h => h ▸ kindOf_code k, fun h => ?_⟩
  simpa using List.find?_some h

theorem kindOf_eq_none {code : Nat} (h : ∀ n, (code, n) ∉ kindLengths) : kindOf code = none :=
  Option.eq_none_iff_forall_ne_some.2 fun _ hk => h _ (mem_kindLengths.2 ⟨_, hk, rfl⟩)

theorem code_of_kindOf {code : Nat} {k : Kind} (h : kindOf code = some k) : k.code = code := by
  simpa using List.find?_some h

theorem isRead_iff (k : Kind) : k.isRead = true ↔ 32 ≤ k.code := by cases k <;> decide

/-- Bits that a receiving part's frame test refuses are discarded (R165). -/
theorem frameClosed_discards {bits : List Bool} {s : State} (hr : s.li.receiver = .receiving) (hb : bits ≠ [])
    (hf : ∀ f, frameOfBits bits = some f → f.accepted s.li.address = none) : frameClosed bits s = closeReception s := by
  rw [frameClosed_receiving hr, if_neg hb]
  unfold receiveBits
  split
  · rfl
  · rename_i f h
    simp only [show f.accepted (closeReception s).li.address = none from hf f h]

/-- The frame that a content of whole bytes spells: its length, its check and its fields (R165). -/
theorem frameOfBits_some {bits content : List Bool} {f : RawFrame} (hu : unstuff bits = some content)
    (h : frameOfBits bits = some f) : ∃ bytes, bytesOfBits content = some bytes ∧ 5 ≤ bytes.length ∧ bytes.length ≤ 37 ∧
      bytes.drop (bytes.length - 2) = checkBytes (bytes.take (bytes.length - 2)) ∧
      f = ⟨beNat (slice bytes 0 1), beNat (slice bytes 1 1), beNat (slice bytes 2 1), slice bytes 3 (bytes.length - 5)⟩ := by
  unfold frameOfBits at h
  simp only [hu] at h
  split at h
  · exact absurd h nofun
  · rename_i bytes hbytes
    unfold frameOfContent at h
    split_ifs at h with hc
    exact ⟨bytes, hbytes, hc.1, hc.2.1, hc.2.2, (Option.some.inj h).symm⟩

/-- An addressed frame of no known kind, or of a wrong length, is refused by name (R171 orders 1 to 3). -/
theorem judge_unknownKind (m : Master) (code : Nat) (s : State) :
    judge m (.unknownKind code) s = .refuse s .unknownKind := rfl

theorem judge_badLength (m : Master) (k : Kind) (s : State) : judge m (.badLength k) s =
    .refuse s (if s.ct.mode = .waking ∧ k.isRead = false then .notReady else .badValue) := by
  unfold judge
  simp only [Request.kind, Bool.not_eq_true]
  split_ifs <;> rfl

/-- A broadcast that its owner does not take leaves the part as its reception does (R169, R171). -/
theorem receiveRequest_broadcast_refused {h : Hdr} {req : Request} {s : State} (hr : Ready s) (hd : h.dest = .broadcast)
    (hj : (judge h.src req (received h s)).state = received h s) : receiveRequest h req s = received h s := by
  rw [receiveRequest_broadcast hr hd, hj]
  exact ite_self _

/-- The ones in a row that a receiving part finds in the bits, so that they are no content (R164). -/
theorem unstuff_of_six_ones {bits before after : List Bool} (h : bits = before ++ List.replicate 6 true ++ after) :
    unstuff bits = none := by rw [h]; exact unstuff_six_ones before after (Nat.zero_le 5)

/-- Settles O32. -/
theorem faultyFramesAreDiscarded : Obligations.FaultyFramesAreDiscarded := by
  intro bits s hon hr discarded discards lengths
  have discard (hb : bits ≠ []) (hf : ∀ f, frameOfBits bits = some f → f.accepted s.li.address = none) : discards :=
    exec_event_eq hon (frameClosed_discards hr hb hf)
  refine ⟨⟨7, exec_event_eq (f := frameAbort) hon (by unfold frameAbort; rw [hr]; rfl)⟩, fun before after h => ?_,
    fun content hb hu => ⟨fun h => ?_, fun h => ?_, fun h => ?_, fun bytes hbytes hcheck => ?_, fun bytes hbytes hlo hhi hcheck => ?_⟩⟩
  · refine discard (by rw [h]; simp) fun f hf => ?_
    unfold frameOfBits at hf
    rw [unstuff_of_six_ones h] at hf
    exact absurd hf nofun
  · refine discard hb fun f hf => ?_
    obtain ⟨bytes, hbytes, -⟩ := frameOfBits_some hu hf
    have := bytesOfBits_length hbytes
    omega
  · refine discard hb fun f hf => ?_
    obtain ⟨bytes, hbytes, hlo, -⟩ := frameOfBits_some hu hf
    have := bytesOfBits_length hbytes
    omega
  · refine discard hb fun f hf => ?_
    obtain ⟨bytes, hbytes, -, hhi, -⟩ := frameOfBits_some hu hf
    have := bytesOfBits_length hbytes
    omega
  · refine discard hb fun f hf => ?_
    obtain ⟨bytes', hbytes', -, -, hcheck', -⟩ := frameOfBits_some hu hf
    obtain rfl := Option.some.inj (hbytes.symm.trans hbytes')
    exact absurd hcheck' hcheck
  · have spelled : frameOfBits bits = some ⟨beNat (slice bytes 0 1), beNat (slice bytes 1 1), beNat (slice bytes 2 1),
        slice bytes 3 (bytes.length - 5)⟩ := by
      unfold frameOfBits
      simp only [hu, hbytes, frameOfContent, if_pos (And.intro hlo (And.intro hhi hcheck))]
    generalize beNat (slice bytes 0 1) = dest at spelled ⊢
    generalize beNat (slice bytes 1 1) = src at spelled ⊢
    generalize beNat (slice bytes 2 1) = code at spelled ⊢
    generalize slice bytes 3 (bytes.length - 5) = payload at spelled ⊢
    have foreign (h : destOf s.li.address dest = none ∨ masterOf src = none) : discards := by
      refine discard hb fun f hf => ?_
      obtain rfl := Option.some.inj (spelled.symm.trans hf)
      unfold RawFrame.accepted
      rcases h with h | h <;> simp [h]
    have takes (m : Master) (d : Dest) (hm : m.address = src) (hd : destOf s.li.address dest = some d) :
        exec (.frameClosed bits) s = .next (receiveRequest ⟨m, d⟩ (requestOf code payload) s) := by
      have accepted : (RawFrame.mk dest src code payload).accepted s.li.address = some ⟨m, d⟩ := by
        unfold RawFrame.accepted
        simp only [hd, ← hm, masterOf_address]
      exact exec_event_eq hon (frameClosed_accepted hr hb spelled accepted)
    have runs : s.li.receiver.runs = true := Receiver.runs_iff.2 (.inr hr)
    have accepts (h : Hdr) (req : Request) : receiveRequest h req s = acceptFrame h req discarded := if_pos runs
    have unknownKind (h : ∀ n, (code, n) ∉ lengths) : requestOf code payload = .unknownKind code := by
      unfold requestOf; rw [kindOf_eq_none h]
    have badLength (h : ∃ n, (code, n) ∈ lengths ∧ payload.length ≠ n) :
        ∃ k, requestOf code payload = .badLength k ∧ k.code = code := by
      obtain ⟨n, hn, hlen⟩ := h
      obtain ⟨k, hk, rfl⟩ := mem_kindLengths.1 hn
      refine ⟨k, ?_, code_of_kindOf hk⟩
      simp only [requestOf, hk, if_neg hlen]
    refine ⟨fun h1 h2 => foreign (.inl ?_), fun h1 h2 h3 h4 => foreign (.inr ?_), fun m hm hd => ?_, fun m hm hd hne => ?_⟩
    · simp [destOf, h1, broadcastAddress, h2]
    · unfold masterOf
      split
      case h_5 => rfl
      all_goals contradiction
    · have taken := takes m .addressed hm (if_pos hd)
      refine ⟨taken.trans (congrArg _ (accepts _ _)), fun hserv hq => ?_⟩
      have hready : Ready s := ⟨⟨hon, runs⟩, hserv, hq⟩
      have answers {req : Request} {r : Result} (hreq : requestOf code payload = req) (hcode : req.kindCode = code)
          (hj : judge m req (received ⟨m, .addressed⟩ s) = .refuse (received ⟨m, .addressed⟩ s) r) :
          ∃ req, req.kindCode = code ∧ exec (.frameClosed bits) s =
            .next (inService ⟨m, .addressed⟩ req r [] (received ⟨m, .addressed⟩ s)) := by
        refine ⟨req, hcode, taken.trans ?_⟩
        rw [hreq, receiveRequest_addressed hready rfl, hj]; rfl
      refine ⟨fun hu => answers (unknownKind hu) rfl (judge_unknownKind m code _), fun hw hm hlt => ?_, fun hw hnot => ?_⟩
      · obtain ⟨k, hk, hcode⟩ := badLength hw
        refine answers hk hcode ((judge_badLength m k _).trans ?_)
        have hread : k.isRead = false := Bool.eq_false_iff.2 fun h => absurd ((isRead_iff k).1 h) (by omega)
        rw [if_pos ⟨hm, hread⟩]
      · obtain ⟨k, hk, hcode⟩ := badLength hw
        refine answers hk hcode ((judge_badLength m k _).trans ?_)
        rw [if_neg]
        rintro ⟨hmode, hread⟩
        rcases hnot with h | h
        · exact h hmode
        · rw [(isRead_iff k).2 (hcode ▸ h)] at hread; exact absurd hread nofun
    · have hdest : destOf s.li.address dest = some .broadcast := by
        simp [destOf, hd, broadcastAddress, Ne.symm hne]
      have taken := takes m .broadcast hm hdest
      refine ⟨taken.trans (congrArg _ (accepts _ _)), fun hserv hq hbad => taken.trans (congrArg _ ?_)⟩
      have hready : Ready s := ⟨⟨hon, runs⟩, hserv, hq⟩
      refine receiveRequest_broadcast_refused hready rfl ?_
      rcases hbad with h | h
      · rw [unknownKind h]; rfl
      · obtain ⟨k, hk, -⟩ := badLength h
        rw [hk, judge_badLength]; rfl

end Sys2Proof.Machine

/-! # What ends in the fault list through reports and changes of channels (R140, R201) -/

namespace Sys2Proof.Machine

variable {s t u : State} {kept : Prop} {k : Chan}

/-! ### Records that end, and lists that stand -/

theorem Ends.congr {e e' : FaultRecord → Bool} (h : Ends e s t) (he : ∀ f, e f = e' f) : Ends e' s t := by
  rwa [show e' = e from (funext he).symm]

theorem Ends.keeps {e : FaultRecord → Bool} (h : Ends e s t) (he : ∀ f, e f = false) : KeepsFaults s t := by
  refine ⟨h.1.trans ?_, h.2⟩
  simp only [he, Bool.false_eq_true, if_false, List.map_id']

theorem KeepsFaults.ends (h : KeepsFaults s t) : Ends (fun _ => false) s t := by
  refine ⟨?_, h.2⟩
  simp only [h.1, Bool.false_eq_true, if_false, List.map_id']

/-- What ends from a state whose list is the same. -/
theorem Ends.of_keeps {e : FaultRecord → Bool} (h : KeepsFaults s t) (h' : Ends e t u) : Ends e s u :=
  ⟨h'.1.trans (by rw [h.1]), h'.2.1.trans h.2.1, h'.2.2.trans h.2.2⟩

/-! ### The condition of HORIZON_SHORTFALL, channel by channel (R140) -/

/-- The channel's view counts toward the condition: it steers from a source other than the window ahead. -/
def ChanView.counts (v : ChanView) : Bool := v.state.steers && v.source.isShort

/-- The condition is met by the view as it stands. -/
def Met (s : State) : Prop := shortfallOf s.ct.table s.sv.view s.sv.routeOpen s.sv.conf = true

theorem met_iff : Met s ↔ s.sv.routeOpen = true ∧ s.sv.conf = .placed ∧
    ∃ k, fitted s k = true ∧ (s.sv.view.get k).counts = true := by
  unfold Met shortfallOf someFitted
  simp only [fitted, ChanView.counts, Bool.and_eq_true, beq_iff_eq, List.any_eq_true, Chan.mem_all, true_and, and_assoc]

theorem not_met_of_closed (h : s.sv.routeOpen = false) : ¬Met s := fun hm => by
  rw [(met_iff.1 hm).1] at h; exact absurd h nofun

/-- The flag stands where the condition is met; where it is kept, it stands there only. -/
def Calm (kept : Prop) (s : State) : Prop :=
  (Met s → s.sv.shortfall = true) ∧ (kept → s.sv.shortfall = true → Met s)

theorem Derived.calm (h : Derived s) : Calm kept s := ⟨fun hm => h.2.2.trans hm, fun _ hs => h.2.2.symm.trans hs⟩

theorem calm_of_closed (h : s.sv.routeOpen = false) : Calm False s := ⟨fun hm => absurd hm (not_met_of_closed h), nofun⟩

/-- From `s` to `t` nothing is raised, the records that end are those of a HORIZON_SHORTFALL that ceases, and the orders and
the route as seen stand; where it is kept, HORIZON_SHORTFALL stands too. -/
structure Falls (kept : Prop) (s t : State) : Prop where
  calm : Calm kept t
  falls : t.sv.shortfall = true → s.sv.shortfall = true
  stays : kept → s.sv.shortfall = true → t.sv.shortfall = true
  ends : Ends (fun f => (s.sv.shortfall && !t.sv.shortfall) && f.isPart .horizonShortfall) s t
  orders : KeepsOrders s t
  route : t.sv.routeOpen = s.sv.routeOpen ∧ t.sv.conf = s.sv.conf

/-- A change of other blocks and of the fitted channels that leaves the Supervisor, with the flag as it should be. -/
theorem Falls.of_sv (hc : Calm kept t) (h : t.sv = s.sv) : Falls kept s t := by
  refine ⟨hc, fun ht => by rwa [h] at ht, fun _ hs => by rwa [h], ?_, ⟨by rw [h], by rw [h]⟩, ⟨by rw [h], by rw [h]⟩⟩
  exact (KeepsFaults.ends ⟨by rw [h], by rw [h], by rw [h]⟩).congr fun f => by rw [h]; cases s.sv.shortfall <;> rfl

theorem Falls.refl (h : Calm kept s) : Falls kept s s := .of_sv h rfl

theorem Falls.trans (h : Falls kept s t) (h' : Falls kept t u) : Falls kept s u := by
  refine ⟨h'.calm, fun hu => h.falls (h'.falls hu), fun hk hs => h'.stays hk (h.stays hk hs), ?_, h.orders.trans h'.orders,
    h'.route.1.trans h.route.1, h'.route.2.trans h.route.2⟩
  refine (h.ends.trans h'.ends fun f => rfl).congr fun f => ?_
  have h1 := h.falls
  have h2 := h'.falls
  cases hs : s.sv.shortfall <;> cases ht : t.sv.shortfall <;> cases hu : u.sv.shortfall <;> simp_all

theorem Falls.keeps (h : Falls True s t) : KeepsFaults s t := h.ends.keeps fun f => by
  cases hs : s.sv.shortfall
  · rfl
  · rw [h.stays trivial hs]; rfl

/-! ### The derivation (R127) -/

theorem derive_met : Met (derive s) ↔ Met s := by
  unfold Met
  obtain ⟨hv, hr, hc, -⟩ := derive_sv s
  rw [hv, hr, hc, derive_ct]

/-- A derivation whose view does not newly meet the condition raises nothing. -/
theorem derive_falls (h : Calm kept s) : Falls kept s (derive s) := by
  have hmet : (derive s).sv.shortfall = true ↔ Met s := by rw [(derive_derived s).2.2]; rfl
  obtain ⟨-, hr, hc, -⟩ := derive_sv s
  refine ⟨⟨fun hm => hmet.2 (derive_met.1 hm), fun _ hs => derive_met.2 (hmet.1 hs)⟩, fun hd => h.1 (hmet.1 hd),
    fun hk hs => hmet.2 (h.2 hk hs), ?_, derive_keeps s, hr, hc⟩
  by_cases hm : Met s
  · have same : derive s = rederived s := by
      rw [derive_eq, show shortfallOf _ _ _ _ = true from hm, h.1 hm]; rfl
    exact (KeepsFaults.ends (same ▸ ⟨rfl, rfl, rfl⟩)).congr fun f => by rw [hmet.2 hm, Bool.not_true, Bool.and_false]; rfl
  · have hm' : shortfallOf s.ct.table s.sv.view s.sv.routeOpen s.sv.conf = false := Bool.eq_false_iff.2 hm
    have hd : (derive s).sv.shortfall = false := (derive_derived s).2.2.trans hm'
    cases hs : s.sv.shortfall
    · have same : derive s = rederived s := by rw [derive_eq, hm', hs]; rfl
      exact (KeepsFaults.ends (same ▸ ⟨rfl, rfl, rfl⟩)).congr fun f => rfl
    · have ended : derive s = reportInactive .horizonShortfall .none (rederived s) := by rw [derive_eq, hm', hs]; rfl
      rw [hd, ended]
      exact reportInactive_ends .horizonShortfall .none (rederived s)

/-! ### Reports of the channels (R91, R128 to R130) -/

/-- The view with one channel's part replaced. -/
def viewed (k : Chan) (v : ChanView) (s : State) : State := s.setSv { s.sv with view := s.sv.view.set k v }

/-- A channel's part in the view that counts as the one before it does, or less where the condition may cease. -/
theorem viewed_calm {v : ChanView} (h : Calm kept s) (hv : s.sv.routeOpen = true →
    (v.counts = true → (s.sv.view.get k).counts = true) ∧ (kept → (s.sv.view.get k).counts = true → v.counts = true)) :
    Calm kept (viewed k v s) := by
  have get (j : Chan) : (viewed k v s).sv.view.get j = if j = k then v else s.sv.view.get j := by
    by_cases hj : j = k
    · subst hj; simp [viewed, Quad.get_set_self]
    · simp [viewed, Quad.get_set_ne _ _ hj, hj]
  refine ⟨fun hm => h.1 ?_, fun hk hs => ?_⟩
  · obtain ⟨hr, hc, j, hf, hj⟩ := met_iff.1 hm
    refine met_iff.2 ⟨hr, hc, j, hf, ?_⟩
    rw [get] at hj
    split_ifs at hj with hjk
    · rw [hjk]; exact (hv hr).1 hj
    · exact hj
  · obtain ⟨hr, hc, j, hf, hj⟩ := met_iff.1 (h.2 hk hs)
    refine met_iff.2 ⟨hr, hc, j, hf, ?_⟩
    rw [get]
    split_ifs with hjk
    · rw [hjk] at hj; exact (hv hr).2 hk hj
    · exact hj

theorem viewed_falls {v : ChanView} (h : Calm kept s) (hv : s.sv.routeOpen = true →
    (v.counts = true → (s.sv.view.get k).counts = true) ∧ (kept → (s.sv.view.get k).counts = true → v.counts = true)) :
    Falls kept s (derive (viewed k v s)) := by
  obtain ⟨hcalm, hfalls, hstays, hends, horders, hroute⟩ := derive_falls (viewed_calm h hv)
  exact ⟨hcalm, hfalls, hstays, hends, horders, hroute⟩

/-- A channel state that steers as the one seen does; one that does not steer where the condition may cease. -/
def SteersAs (kept : Prop) (k : Chan) (st : ChanState) (s : State) : Prop :=
  s.sv.routeOpen = true → (st.steers = true → (s.sv.view.get k).state.steers = true) ∧
    (kept → (s.sv.view.get k).state.steers = true → st.steers = true)

theorem steersAs_closed {st : ChanState} (h : s.sv.routeOpen = false) : SteersAs kept k st s := fun ho => by
  rw [h] at ho; exact absurd ho nofun

theorem steersAs_of_not {st : ChanState} (h : st.steers = false) (h' : kept → (s.sv.view.get k).state.steers = false) :
    SteersAs kept k st s :=
  fun _ => ⟨fun hs => absurd (h.symm.trans hs) nofun, fun hk hs => absurd ((h' hk).symm.trans hs) nofun⟩

theorem reportState_falls (h : Calm kept s) (hs : SteersAs kept k (s.ac.get k).state s) :
    Falls kept s (reportState k s) := by
  unfold reportState
  dsimp only
  split_ifs
  · exact .refl h
  · refine viewed_falls h fun ho => ?_
    obtain ⟨h1, h2⟩ := hs ho
    simp only [ChanView.counts, Bool.and_eq_true]
    exact ⟨fun hv => ⟨h1 hv.1, hv.2⟩, fun hk hv => ⟨h2 hk hv.1, hv.2⟩⟩

/-- A centring order to a channel raises nothing (R128). -/
theorem centringOrder_falls (h : Calm False s) (k : Chan) : Falls False s (centringOrder k s) := by
  unfold centringOrder
  dsimp only
  split_ifs
  · have put : Falls False s (putChannel k ((s.ac.get k).toCentring false) s) := .of_sv h rfl
    refine put.trans (reportState_falls h (steersAs_of_not ?_ nofun))
    rw [putChannel_ac, Quad.get_set_self]; rfl
  · exact .refl h

theorem centringOrders_falls (h : Calm False s) : Falls False s (centringOrders s) :=
  have h1 := centringOrder_falls h .c1
  have h2 := h1.trans (centringOrder_falls h1.calm .c2)
  have h3 := h2.trans (centringOrder_falls h2.calm .c3)
  h3.trans (centringOrder_falls h3.calm .c4)

theorem Falls.weaken (h : Falls kept s t) : Falls False s t := { h with calm := ⟨h.calm.1, nofun⟩, stays := nofun }

theorem Calm.weaken (h : Calm kept s) : Calm False s := ⟨h.1, nofun⟩

/-- A channel's change without a fault raises nothing where its state steers as it is seen to, and nothing ceases where it
calls for no centring order (R91, R129). -/
theorem commit_falls {ch : Channel} (h : Calm kept s) (hs : SteersAs kept k ch.state s)
    (hp : kept → callsPartnerRule ch = false) : Falls kept s (commit k ⟨ch, []⟩ s) := by
  show Falls kept s (reportChange k (s.ac.get k) (putChannel k ch s))
  have put : Falls kept s (putChannel k ch s) := .of_sv h rfl
  have told : Falls kept s (reportState k (putChannel k ch s)) :=
    put.trans (reportState_falls h (by rw [putChannel_ac, Quad.get_set_self]; exact hs))
  unfold reportChange
  dsimp only
  rw [putChannel_ac, Quad.get_set_self]
  split_ifs with hsame hcalls
  · exact put
  · have hk : kept → False := fun hk => absurd ((hp hk).symm.trans hcalls) nofun
    have order := told.weaken.trans (centringOrder_falls told.calm.weaken k.partner)
    exact { order with calm := ⟨order.calm.1, fun h => (hk h).elim⟩, stays := fun h => (hk h).elim }
  · exact told

/-- A change of a schedule's source at a channel that does not steer, or while no route is open, changes no record (R38). -/
theorem reportSource_falls (h : Calm kept s) (hs : s.sv.routeOpen = true → (s.sv.view.get k).state.steers = false) :
    Falls kept s (reportSource k s) := by
  unfold reportSource
  dsimp only
  split_ifs
  · exact .refl h
  · refine viewed_falls h fun ho => ?_
    simp [ChanView.counts, hs ho]

end Sys2Proof.Machine

/-! # The end of a route, and the channel requests -/

namespace Sys2Proof.Machine

variable {s t u : State} {k : Chan}

/-! ### The closing of the window (R23, R27, R87) -/

/-- A BEACON_MISSED that stands. -/
def ofMissedBeacons (s : State) (f : FaultRecord) : Bool := decide (2 ≤ s.pfu.miss) && f.isPart .beaconMissed

/-- From `s` to `t` nothing is raised, these records end and those of a HORIZON_SHORTFALL that ceases, the latch stands, and no
route is seen open. -/
structure Sheds (ended : FaultRecord → Bool) (s t : State) : Prop where
  closed : t.sv.routeOpen = false
  falls : t.sv.shortfall = true → s.sv.shortfall = true
  ends : Ends (fun f => ended f || ((s.sv.shortfall && !t.sv.shortfall) && f.isPart .horizonShortfall)) s t
  latch : t.sv.latch = s.sv.latch

theorem Falls.sheds {kept : Prop} (h : Falls kept s t) (hc : s.sv.routeOpen = false) : Sheds (fun _ => false) s t :=
  ⟨h.route.1.trans hc, h.falls, h.ends.congr fun _ => rfl, h.orders.2⟩

theorem Sheds.trans {e e' : FaultRecord → Bool} (h : Sheds e s t) (h' : Sheds e' t u)
    (hk : ∀ f : FaultRecord, e' { f with active := false } = e' f) : Sheds (fun f => e f || e' f) s u := by
  refine ⟨h'.closed, fun hu => h.falls (h'.falls hu), ?_, h'.latch.trans h.latch⟩
  refine (h.ends.trans h'.ends fun _ => by rw [hk]; rfl).congr fun f => ?_
  have h1 := h.falls
  have h2 := h'.falls
  cases hs : s.sv.shortfall <;> cases ht : t.sv.shortfall <;> cases hu : u.sv.shortfall <;> cases e f <;> cases e' f <;> simp_all

theorem Sheds.congr {e e' : FaultRecord → Bool} (h : Sheds e s t) (he : ∀ f, e f = e' f) : Sheds e' s t := by
  rwa [show e' = e from (funext he).symm]

theorem Sheds.falls_trans {e : FaultRecord → Bool} (h : Sheds e s t) (h' : Falls False t u) : Sheds e s u :=
  (h.trans (h'.sheds h.closed) fun _ => rfl).congr fun _ => Bool.or_false _

/-- The window as a closed route leaves it, and the Position Fix Unit and the marks with it, nothing reported. -/
def closed (s : State) : State :=
  { s with
    rw := { isOpen := false, lead := .a, rear := 0, front := 0, next := 0, segs := [], horizonLow := false }
    pfu := { s.pfu with conf := .unplaced, miss := 0, missTold := false, marks := [] }
    path := { s.path with marks := s.path.marks.map fun m => { m with isVoid := true } }
    sv := if 2 ≤ s.pfu.miss then s.sv.takeInactive .beaconMissed .none else s.sv }

theorem closeWindow_eq (s : State) : closeWindow s = reportRoute (closed s) := by
  unfold closeWindow unplace closed
  by_cases hm : 2 ≤ s.pfu.miss
  · rw [if_pos hm]; exact congrArg reportRoute (if_pos hm)
  · rw [if_neg hm]; exact congrArg reportRoute (if_neg hm)

theorem closed_sv (s : State) : (closed s).sv.view = s.sv.view ∧ (closed s).sv.routeOpen = s.sv.routeOpen ∧
    (closed s).sv.shortfall = s.sv.shortfall ∧ KeepsOrders s (closed s) ∧ Ends (ofMissedBeacons s) s (closed s) := by
  unfold closed ofMissedBeacons
  by_cases hm : 2 ≤ s.pfu.miss
  · rw [if_pos hm]
    exact ⟨rfl, rfl, rfl, ⟨rfl, rfl⟩, (reportInactive_ends .beaconMissed .none s).congr fun f => by rw [decide_eq_true hm]; rfl⟩
  · rw [if_neg hm]
    exact ⟨rfl, rfl, rfl, ⟨rfl, rfl⟩, (Ends.refl s).congr fun f => by rw [decide_eq_false hm]; rfl⟩

/-- What the closing of the window leaves and ends; a HORIZON_SHORTFALL with the route seen open ends too. -/
theorem closeWindow_sheds (s : State) : OnlySv (closed s) (closeWindow s) ∧ Sheds (ofMissedBeacons s) s (closeWindow s) ∧
    (closeWindow s).sv.conf = .unplaced ∧ (s.sv.routeOpen = true → (closeWindow s).sv.shortfall = false) ∧
    (closeWindow s).sv.view = s.sv.view ∧ (closeWindow s).sv.hold = s.sv.hold := by
  obtain ⟨hview, hopen, hshort, horders, hends⟩ := closed_sv s
  rw [closeWindow_eq]
  refine ⟨reportRoute_onlySv _, ?_⟩
  unfold reportRoute
  split_ifs with hsame
  · refine ⟨⟨hsame.1, fun h => hshort ▸ h, hends.congr fun f => ?_, horders.2⟩, hsame.2, fun ho => ?_, hview, horders.1⟩
    · rw [hshort]; cases s.sv.shortfall <;> simp
    · exact absurd ((hopen.trans ho).symm.trans hsame.1) nofun
  · generalize hv : (closed s).setSv { (closed s).sv with routeOpen := (closed s).rw.isOpen, conf := (closed s).pfu.conf } = v
    have hclosed : v.sv.routeOpen = false := by rw [← hv]; rfl
    have vfalls := derive_falls (calm_of_closed hclosed)
    have hvshort : v.sv.shortfall = s.sv.shortfall := by rw [← hv]; exact hshort
    have hvends : Ends (ofMissedBeacons s) s v := by rw [← hv]; exact hends
    have hvorders : KeepsOrders s v := by rw [← hv]; exact horders
    have hmet : (derive v).sv.shortfall = false := Bool.eq_false_iff.2 fun h =>
      not_met_of_closed hclosed ((derive_derived v).2.2.symm.trans h)
    refine ⟨⟨vfalls.route.1.trans hclosed, fun h => hvshort ▸ vfalls.falls h, ?_, (hvorders.trans vfalls.orders).2⟩,
      vfalls.route.2.trans (by rw [← hv]; rfl), fun _ => hmet, (derive_view v).trans (by rw [← hv]; exact hview),
      (hvorders.trans vfalls.orders).1⟩
    exact (hvends.trans vfalls.ends fun _ => rfl).congr fun f => by rw [hvshort]

/-- Under the view's invariant no HORIZON_SHORTFALL is left after the closing. -/
theorem closeWindow_no_shortfall (h : ViewInv s) : (closeWindow s).sv.shortfall = false := by
  obtain ⟨-, hs, -, ho, -⟩ := closeWindow_sheds s
  cases hopen : s.sv.routeOpen
  · refine Bool.eq_false_iff.2 fun hw => not_met_of_closed hopen ?_
    exact ((ViewInv_iff s).1 h).2.2.2.2.2.symm.trans (hs.falls hw)
  · exact ho hopen

/-- What ends with an open route is what is shed where nothing is left of HORIZON_SHORTFALL. -/
theorem Sheds.ends_route (h : Sheds (ofMissedBeacons s) s t) (ht : t.sv.shortfall = false) : Ends (ofOpenRoute s) s t :=
  h.ends.congr fun f => by rw [ht, Bool.not_false, Bool.and_true]; rfl

/-- A centring order's record, field by field (R110). -/
theorem toCentring_eq (ch : Channel) : ch.toCentring false = { ch with
    state := .centring .stepping, mark := false, persist := 0, homingT := none, lockT := none, settle := none,
    centringT := some 0 } := rfl

/-- Settles O17. -/
theorem closeRouteEndsTheRoute : Obligations.CloseRouteEndsTheRoute := by
  intro h s hr hd hh
  have holder : holds (received h s) h.src = true := (holds_received_eq h s).trans hh
  refine ⟨fun ho => exec_answer rfl hr hd ?_, fun ho =>
    ⟨centringOrders (closeWindow (received h s)), exec_answer rfl hr hd ?_, ?_⟩⟩
  · simp [ownerTakes, takeCloseRoute, holder, ho]
  · simp [ownerTakes, takeCloseRoute, holder, ho]
  · obtain ⟨⟨-, hli, haa, hrw, hodo, hpfu, hss, hac, hct, hpath, hpending⟩, hsheds, hconf, hopen, -, hhold⟩ :=
      closeWindow_sheds (received h s)
    have hnone : ViewInv s → (closeWindow (received h s)).sv.shortfall = false := fun hv =>
      closeWindow_no_shortfall (s := received h s) hv
    generalize closeWindow (received h s) = w at *
    have order := centringOrders_falls (calm_of_closed hsheds.closed)
    obtain ⟨-, oli, oaa, orw, oodo, opfu, oss, oct, opath, opending⟩ := centringOrders_onlyAcSv w
    have all := hsheds.falls_trans order
    refine ⟨orw.trans hrw, opfu.trans hpfu, fun k => ?_, opath.trans hpath, all.closed, order.route.2.trans hconf,
      fun hs => ?_, all.ends.onlyEnds, fun hv => ?_, order.orders.1.trans hhold, all.latch, oodo.trans hodo, oss.trans hss,
      oct.trans hct, oli.trans hli, oaa.trans haa, opending.trans hpending⟩
    · rw [centringOrders_get, hac]; rfl
    · exact Bool.eq_false_iff.2 fun hc => absurd ((hopen hs).symm.trans (order.falls hc)) nofun
    · exact Sheds.ends_route (s := received h s) all (Bool.eq_false_iff.2 fun hc => absurd ((hnone hv).symm.trans (order.falls hc)) nofun)

/-! ### One operation on every channel -/

/-- An operation on every channel in turn that changes one channel's part of a block at a time. -/
theorem eachChannel_get {α : Type} {f : Chan → State → State} {get : State → Chan → α} {g : Chan → α → α}
    {P : State → Prop} (hf : ∀ k s, P s → P (f k s) ∧ ∀ j, get (f k s) j = if j = k then g k (get s k) else get s j)
    (hs : P s) : P (eachChannel f s) ∧ ∀ k, get (eachChannel f s) k = g k (get s k) := by
  obtain ⟨h1, g1⟩ := hf .c1 s hs
  obtain ⟨h2, g2⟩ := hf .c2 _ h1
  obtain ⟨h3, g3⟩ := hf .c3 _ h2
  obtain ⟨h4, g4⟩ := hf .c4 _ h3
  refine ⟨h4, fun k => ?_⟩
  unfold eachChannel
  cases k <;> simp [g4, g3, g2, g1]

/-- A change without a fault that calls for no partner rule changes its own channel alone (R129). -/
theorem commit_get_alone {ch : Channel} (hc : callsPartnerRule ch = false) (k : Chan) (s : State) (j : Chan) :
    (commit k ⟨ch, []⟩ s).ac.get j = if j = k then ch else s.ac.get j := by
  rw [commit_ac k ⟨ch, []⟩ s rfl, if_neg (by simp [hc])]
  split_ifs with hj
  · rw [hj, Quad.get_set_self]
  · rw [Quad.get_set_ne _ _ hj]

theorem commit_keepsOrders (k : Chan) (ch : Channel) (s : State) : KeepsOrders s (commit k ⟨ch, []⟩ s) :=
  ⟨(commit_orders k ⟨ch, []⟩ s).1, (commit_orders k ⟨ch, []⟩ s).2.trans (Bool.or_false _)⟩

/-! ### UNLOCK (R104, R105, R133) -/

theorem releaseIf_get (qual : Chan → Bool) (k : Chan) (s : State) (j : Chan) : (releaseIf qual k s).ac.get j =
    if j = k then (if qual k then (s.ac.get k).toReleasing s.ct.table s.sv.hold else s.ac.get k) else s.ac.get j := by
  unfold releaseIf
  split_ifs with hq hj hj
  · rw [commit_get_alone (toReleasing_not_absent _ _ _).2, if_pos hj]
  · rw [commit_get_alone (toReleasing_not_absent _ _ _).2, if_neg hj]
  · rw [hj]
  · rfl

theorem releaseIf_keepsOrders (qual : Chan → Bool) (k : Chan) (s : State) : KeepsOrders s (releaseIf qual k s) := by
  unfold releaseIf
  split_ifs
  exacts [commit_keepsOrders k _ s, .refl s]

/-- Every qualifying channel enters RELEASING, and no other channel changes (R104). -/
theorem releaseAll_get (s : State) : KeepsOrders s (releaseAll s) ∧ ∀ k, (releaseAll s).ac.get k =
    if qualifies s k then (s.ac.get k).toReleasing s.ct.table s.sv.hold else s.ac.get k := by
  have each := eachChannel_get (f := releaseIf (qualifies s)) (get := fun t k => t.ac.get k)
    (g := fun k ch => if qualifies s k then ch.toReleasing s.ct.table s.sv.hold else ch)
    (P := fun t => t.ct = s.ct ∧ KeepsOrders s t) (s := s) ?_ ⟨rfl, .refl s⟩
  · exact ⟨each.1.2, each.2⟩
  · rintro k t ⟨hct, hkeep⟩
    refine ⟨⟨?_, hkeep.trans (releaseIf_keepsOrders _ k t)⟩, fun j => ?_⟩
    · obtain ⟨-, -, -, -, -, -, -, h, -⟩ := releaseIf_onlyAcSv (qualifies s) k t
      exact h.trans hct
    · rw [releaseIf_get, hct, hkeep.1]

theorem channelSet_eq_zero {p : Chan → Bool} : channelSet p = 0 ↔ ∀ k, p k = false := by
  refine ⟨fun h k => Bool.eq_false_iff.2 fun hk => ?_, fun h => by simp [channelSet, h]⟩
  unfold channelSet at h
  cases k <;> simp [hk] at h

theorem qualifies_received (h : Hdr) (s : State) : qualifies (received h s) = qualifies s := rfl

/-- Settles O19. -/
theorem unlockReleasesQualifyingChannels : Obligations.UnlockReleasesQualifyingChannels := by
  intro h s hr hd hh
  have holder : holds (received h s) h.src = true := (holds_received_eq h s).trans hh
  refine ⟨fun k => qualifies_iff, fun ho => exec_answer rfl hr hd ?_, fun ho hc => exec_answer rfl hr hd ?_,
    fun ho hc hl => exec_answer rfl hr hd ?_, fun ho hc hl hq => exec_answer rfl hr hd ?_, fun ho hc hl hq =>
    ⟨releaseAll (received h s), exec_answer rfl hr hd ?_, ?_, ?_⟩⟩
  · simp [ownerTakes, takeUnlock, holder, ho, Taken.refuse]
  · simp [ownerTakes, takeUnlock, holder, ho, hc, Taken.refuse]
  · simp [ownerTakes, takeUnlock, holder, ho, hc, hl, Taken.refuse]
  · simp [ownerTakes, takeUnlock, holder, ho, hc, hl, qualifies_received, channelSet_eq_zero.2 hq, Taken.refuse]
  · have some_qualify : channelSet (qualifies s) ≠ 0 := fun h0 => by
      obtain ⟨k, hk⟩ := hq
      rw [channelSet_eq_zero.1 h0 k] at hk
      exact absurd hk nofun
    simp only [ownerTakes, takeUnlock, holder, received_rw, ho, received_pfu, hc, received_sv, hl, qualifies_received,
      some_qualify, Bool.not_true, Bool.false_eq_true, if_false, bne_self_eq_false]
    rfl
  · exact releaseAll_onlyAcSv _
  · obtain ⟨hkeep, hget⟩ := releaseAll_get (received h s)
    refine ⟨hkeep, fun k => ?_⟩
    have released : (releaseAll (received h s)).ac.get k =
        if qualifies s k then (s.ac.get k).toReleasing s.ct.table s.sv.hold else s.ac.get k := hget k
    refine ⟨fun hk => by rw [released, if_neg (by simp [hk])], fun hk hcon => ?_, fun hk hcon hset => ?_, fun hk hcon hset => ?_⟩
    · rw [released, if_pos hk]; exact if_neg hcon
    · rw [released, if_pos hk]
      exact (if_pos hcon).trans (if_neg hset)
    · rw [released, if_pos hk]
      exact (if_pos hcon).trans (if_pos hset)

/-! ### CENTRE_ALL (R114) -/

theorem released_iff (st : ChanState) :
    st.released = true ↔ (∃ phase, st = .releasing phase) ∨ st = .tracking ∨ st = .holding := by
  cases st <;> simp [ChanState.released]

/-- After centring orders to every channel no channel steers, so the condition of HORIZON_SHORTFALL is not met. -/
theorem centringOrders_no_shortfall (h : ViewInv s) : (centringOrders s).sv.shortfall = false := by
  obtain ⟨hseen, -, -, hderived⟩ := (ViewInv_iff s).1 h
  have seen := centringOrders_seen hseen
  have derived : Derived (centringOrders s) :=
    centringOrder_derived (centringOrder_derived (centringOrder_derived (centringOrder_derived hderived _) _) _) _
  refine Bool.eq_false_iff.2 fun hs => ?_
  obtain ⟨-, -, k, -, hk⟩ := met_iff.1 (derived.2.2.symm.trans hs)
  have steers : ((centringOrders s).ac.get k).state.steers = true := by
    rw [← (seen k).1]; exact (Bool.and_eq_true_iff.1 hk).1
  rw [centringOrders_get] at steers
  split_ifs at steers with hr
  · exact absurd steers nofun
  · refine hr ((released_iff _).2 (.inr ?_))
    revert steers
    cases (s.ac.get k).state <;> simp [ChanState.steers]

/-- Settles O20. -/
theorem centreAllCentresReleasedChannels : Obligations.CentreAllCentresReleasedChannels := by
  intro h s hr hd hh
  have holder : holds (received h s) h.src = true := (holds_received_eq h s).trans hh
  refine ⟨released_iff, centringOrders (received h s), exec_answer rfl hr hd ?_, centringOrders_onlyAcSv _,
    centringOrders_keeps _, fun hv => ?_, fun k => centringOrders_get _ k⟩
  · simp only [ownerTakes, takeCentreAll, holder, Bool.not_true, Bool.false_eq_true, if_false]
    rfl
  · have hv : ViewInv (received h s) := hv
    refine (centringOrders_falls ((ViewInv_iff _).1 hv).2.2.2.calm).ends.congr fun f => ?_
    rw [centringOrders_no_shortfall hv, Bool.not_false, Bool.and_true]; rfl

/-! ### CALIBRATE (R121) -/

theorem toHoming_eq (ch : Channel) : ch.toHoming = { ch with
    state := .homing .assessing, theta := 0, homingT := some 0, lockT := none, settle := none, centringT := none,
    drive := .off, solenoid := false, conv := if ch.conv = .none then .inFlight false else .inFlight true } := by
  unfold Channel.toHoming Channel.timersIdle
  cases ch.conv <;> rfl

/-- A channel that does not steer leaves its state for another that does not: nothing ends. -/
theorem commit_homing_falls {ch : Channel} (hc : ch.state = .homing .assessing) (h : Calm True s)
    (hs : (s.sv.view.get k).state.steers = false) : Falls True s (commit k ⟨ch, []⟩ s) :=
  commit_falls h (steersAs_of_not (by rw [hc]; rfl) fun _ => hs) fun _ => by simp [callsPartnerRule, hc]

/-- Settles O21. -/
theorem calibrateRehomesOneChannel : Obligations.CalibrateRehomesOneChannel := by
  intro h n s hr hd hh
  have holder : holds (received h s) h.src = true := (holds_received_eq h s).trans hh
  refine ⟨fun hn => exec_answer rfl hr hd ?_, fun k hk hst hnot => exec_answer rfl hr hd ?_, fun k hk hst hf hl =>
    ⟨commit k ⟨(s.ac.get k).toHoming, []⟩ (received h s), exec_answer rfl hr hd ?_, commit_onlyAcSv k _ (received h s),
      commit_keepsOrders k _ (received h s), fun hv => ?_, fun j hj => ?_, ?_⟩⟩
  · simp [ownerTakes, takeCalibrate, holder, hn, Taken.refuse]
  · have stands : atStandstill (received h s) = true := by simp [atStandstill, hst]
    have wrong : (fitted s k && (s.ac.get k).state == .locked) = false := by
      rcases hnot with hf | hl
      · rw [hf]; rfl
      · rw [beq_eq_false_iff_ne.2 hl, Bool.and_false]
    simp only [ownerTakes, takeCalibrate, holder, hk, stands, fitted_received, received_ac, wrong, Bool.not_true,
      Bool.not_false, Bool.false_eq_true, if_false, if_true]
    rfl
  · have stands : atStandstill (received h s) = true := by simp [atStandstill, hst]
    simp [ownerTakes, takeCalibrate, holder, hk, stands, hf, hl]
  · obtain ⟨hseen, -, -, hderived⟩ := (ViewInv_iff s).1 hv
    have calm : Calm True (received h s) := hderived.calm
    refine (commit_homing_falls rfl calm ?_).keeps
    show (s.sv.view.get k).state.steers = false
    rw [(hseen k).1, hl]; rfl
  · rw [commit_get_alone rfl, if_neg hj]; rfl
  · rw [commit_get_alone rfl, if_pos rfl, toHoming_eq]

/-! ### HOLD, RESUME and SET_GAIN (R131, R134, R186) -/

theorem resumeOne_get (k : Chan) (s : State) (j : Chan) : (resumeOne k s).ac.get j =
    if j = k then (if (s.ac.get k).state = .holding then { s.ac.get k with state := .tracking } else s.ac.get k)
    else s.ac.get j := by
  unfold resumeOne
  dsimp only
  split_ifs with hq hj hj
  · rw [commit_get_alone rfl, if_pos hj]
  · rw [commit_get_alone rfl, if_neg hj]
  · rw [hj]
  · rfl

theorem resumeOne_falls (h : Calm True s) (hs : Seen s) (k : Chan) : Falls True s (resumeOne k s) ∧ Seen (resumeOne k s) := by
  unfold resumeOne
  dsimp only
  split_ifs with hk
  · refine ⟨commit_falls h (fun _ => ?_) fun _ => rfl, commit_seen hs _ _⟩
    rw [(hs k).1, hk]
    exact ⟨fun _ => rfl, fun _ _ => rfl⟩
  · exact ⟨.refl h, hs⟩

/-- Every HOLDING channel moves to TRACKING, and the orders stand (R134). -/
theorem resumeAll_get (s : State) : KeepsOrders s (resumeAll s) ∧ ∀ k, (resumeAll s).ac.get k =
    if (s.ac.get k).state = .holding then { s.ac.get k with state := .tracking } else s.ac.get k := by
  refine eachChannel_get (f := resumeOne) (get := fun t k => t.ac.get k)
    (g := fun _ ch => if ch.state = .holding then { ch with state := .tracking } else ch)
    (P := fun t => KeepsOrders s t) (fun k t ht => ⟨ht.trans ?_, resumeOne_get k t⟩) (.refl s)
  unfold resumeOne
  dsimp only
  split_ifs
  exacts [commit_keepsOrders k _ t, .refl t]

theorem resumeAll_falls (h : Calm True s) (hs : Seen s) : Falls True s (resumeAll s) :=
  have ⟨f1, s1⟩ := resumeOne_falls h hs .c1
  have ⟨f2, s2⟩ := resumeOne_falls f1.calm s1 .c2
  have ⟨f3, s3⟩ := resumeOne_falls f2.calm s2 .c3
  f1.trans (f2.trans (f3.trans (resumeOne_falls f3.calm s3 .c4).1))

/-- Settles O22. -/
theorem holdResumeAndGain : Obligations.HoldResumeAndGain := by
  intro h s hr hd hh
  have holder : holds (received h s) h.src = true := (holds_received_eq h s).trans hh
  have hold (n : Nat) : ownerTakes h.src (.hold n) (received h s) = match holdOf n with
      | none => .refuse (received h s) .badValue
      | some m => ⟨(received h s).setSv { s.sv with hold := m }, .ok, []⟩ := by
    simp only [ownerTakes, takeHold, holder, Bool.not_true, Bool.false_eq_true, if_false]
    rfl
  refine ⟨exec_answer rfl hr hd (hold 1), exec_answer rfl hr hd (hold 2), fun n h1 h2 => exec_answer rfl hr hd ?_,
    ⟨resumeAll ((received h s).setSv { s.sv with hold := .none }), exec_answer rfl hr hd ?_,
      (OnlySv.setSv _ _).toAcSv.trans (resumeAll_onlyAcSv _), (resumeAll_get _).1.1, (resumeAll_get _).1.2, fun hv => ?_,
      (resumeAll_get _).2⟩, fun n => exec_answer rfl hr hd ?_⟩
  · have names_none : holdOf n = none := by unfold holdOf; split <;> simp_all
    rw [hold, names_none]; rfl
  · simp [ownerTakes, takeResume, holder]
  · obtain ⟨hseen, -, -, hderived⟩ := (ViewInv_iff s).1 hv
    exact (resumeAll_falls (s := (received h s).setSv { s.sv with hold := .none }) (Derived.calm hderived) hseen).keeps
  · have gain : min n 100 = if n ≤ 100 then n else 100 := rfl
    simp only [ownerTakes, takeSetGain, holder, Bool.not_true, Bool.false_eq_true, if_false, gain]
    rfl

end Sys2Proof.Machine

/-! # OPEN_ROUTE and PLACE -/

namespace Sys2Proof.Machine

variable {s t u : State} {k : Chan}

/-! ### The report of the route (R72, R126) -/

theorem reportRoute_route (s : State) : (reportRoute s).sv.routeOpen = s.rw.isOpen ∧ (reportRoute s).sv.conf = s.pfu.conf := by
  unfold reportRoute
  split_ifs with h
  · exact h
  · obtain ⟨-, hr, hc, -⟩ := derive_sv (s.setSv { s.sv with routeOpen := s.rw.isOpen, conf := s.pfu.conf })
    exact ⟨hr, hc⟩

/-- A report of a fault makes, stamps or takes away no active record of another code but as the list had it (R197 to R200). -/
theorem raiseFault_mem {c : FaultCode} {sub : Subject} {g : FaultRecord} (h : g ∈ (raiseFault c sub s).sv.faults)
    (hc : g.code ≠ c) : g ∈ s.sv.faults := by
  have restamped (h : g ∈ s.sv.faults.map fun f =>
      if f.concerns c sub then f.stamp (stampDistance s) s.odo.frameNo else f) : g ∈ s.sv.faults := by
    obtain ⟨f, hf, rfl⟩ := List.mem_map.1 h
    split_ifs at hc ⊢ with hcon
    · exact absurd ((f.concerns_iff c sub).1 hcon).1 hc
    · exact hf
  have joined {l : List FaultRecord} (hl : l.Sublist s.sv.faults)
      (h : g ∈ l ++ [⟨c, sub, stampDistance s, s.odo.frameNo, true⟩]) : g ∈ s.sv.faults := by
    rcases List.mem_append.1 h with h | h
    · exact hl.subset h
    · exact absurd (congrArg FaultRecord.code (List.mem_singleton.1 h)) hc
  rw [raiseFault_sv] at h
  unfold Sv.takeFault at h
  dsimp only at h
  split_ifs at h
  · exact restamped h
  · exact restamped h
  · exact joined (List.Sublist.refl _) h
  · exact joined List.eraseP_sublist h
  · exact h

theorem reportInactive_mem {c : FaultCode} {sub : Subject} {g : FaultRecord} (h : g ∈ (reportInactive c sub s).sv.faults)
    (hc : g.code ≠ c) : g ∈ s.sv.faults := by
  obtain ⟨f, hf, rfl⟩ := List.mem_map.1 (show g ∈ s.sv.faults.map _ from h)
  split_ifs at hc ⊢ with hcon
  · exact absurd ((f.concerns_iff c sub).1 hcon).1 hc
  · exact hf

/-- After a report of inactivity every record it concerns is inactive. -/
theorem reportInactive_inactive {c : FaultCode} {sub : Subject} {g : FaultRecord}
    (h : g ∈ (reportInactive c sub s).sv.faults) (hc : g.code = c) (hs : g.subject = sub) : g.active = false := by
  obtain ⟨f, hf, rfl⟩ := List.mem_map.1 (show g ∈ s.sv.faults.map _ from h)
  split_ifs at hc hs ⊢ with hcon
  · rfl
  · exact absurd ((f.concerns_iff c sub).2 ⟨hc, hs⟩) hcon

theorem derive_mem {g : FaultRecord} (h : g ∈ (derive s).sv.faults) (hc : g.code ≠ .horizonShortfall) : g ∈ s.sv.faults := by
  rw [derive_eq] at h
  split_ifs at h
  · exact raiseFault_mem (s := rederived s) h hc
  · exact reportInactive_mem (s := rederived s) h hc
  · exact h

theorem reportRoute_mem {g : FaultRecord} (h : g ∈ (reportRoute s).sv.faults) (hc : g.code ≠ .horizonShortfall) :
    g ∈ s.sv.faults := by
  unfold reportRoute at h
  split_ifs at h
  · exact h
  · exact derive_mem (s := s.setSv { s.sv with routeOpen := s.rw.isOpen, conf := s.pfu.conf }) h hc

/-- A report of the route with no channel seen steering, and no HORIZON_SHORTFALL standing, leaves the fault list. -/
theorem reportRoute_keepsFaults (hv : ∀ k, (s.sv.view.get k).state.steers = false) (hs : s.sv.shortfall = false) :
    KeepsFaults s (reportRoute s) := by
  unfold reportRoute
  split_ifs
  · exact ⟨rfl, rfl, rfl⟩
  · generalize hu : s.setSv { s.sv with routeOpen := s.rw.isOpen, conf := s.pfu.conf } = v
    have hshort : v.sv.shortfall = false := by rw [← hu]; exact hs
    have unmet : ¬Met v := fun hm => by
      obtain ⟨-, -, k, -, hk⟩ := met_iff.1 hm
      have := hv k
      rw [← hu] at hk
      exact absurd ((Bool.and_eq_true_iff.1 hk).1.symm.trans this) nofun
    have calm : Calm True v := ⟨fun hm => absurd hm unmet, fun _ h => absurd (hshort.symm.trans h) nofun⟩
    have kept := (derive_falls calm).keeps
    rw [← hu] at kept ⊢
    exact kept

/-- Under the view's invariant, with no channel in TRACKING or HOLDING none is seen steering and the condition is not met. -/
theorem view_unsteered (h : ViewInv s) (hk : ∀ k, (s.ac.get k).state ≠ .tracking ∧ (s.ac.get k).state ≠ .holding) :
    (∀ k, (s.sv.view.get k).state.steers = false) ∧ s.sv.shortfall = false := by
  obtain ⟨hseen, -, -, hderived⟩ := (ViewInv_iff s).1 h
  have view (k : Chan) : (s.sv.view.get k).state.steers = false := by
    obtain ⟨h1, h2⟩ := hk k
    rw [(hseen k).1]
    cases hst : (s.ac.get k).state <;> simp_all [ChanState.steers]
  refine ⟨view, Bool.eq_false_iff.2 fun hs => ?_⟩
  obtain ⟨-, -, k, -, hc⟩ := met_iff.1 (hderived.2.2.symm.trans hs)
  exact absurd ((Bool.and_eq_true_iff.1 hc).1.symm.trans (view k)) nofun

/-! ### OPEN_ROUTE (R16 to R18) -/

theorem Ends.of_sv {e : FaultRecord → Bool} (h : Ends e s t) (hu : u.sv = t.sv) : Ends e s u := by
  unfold Ends; rw [hu]; exact h

/-- The reports of inactivity that OPEN_ROUTE makes, in the list as the reopened state has it. -/
theorem reopened_ends (f : OpenRouteFields) (lead : VehicleEnd) (s : State) :
    Ends (fun g => g.isPart .positionConflict || (decide (2 ≤ s.pfu.miss) && g.isPart .beaconMissed)) s (reopened f lead s) := by
  have first := reportInactive_ends .positionConflict .none s
  by_cases hm : 2 ≤ s.pfu.miss
  · have both := first.trans (reportInactive_ends .beaconMissed .none (reportInactive .positionConflict .none s)) fun _ => rfl
    exact (both.of_sv (if_pos hm)).congr fun g => by simp only [hm, decide_true, Bool.true_and]; rfl
  · exact (first.of_sv (if_neg hm)).congr fun g => by simp only [hm, decide_false, Bool.false_and, Bool.or_false]; rfl

/-- After them POSITION_CONFLICT is inactive, and BEACON_MISSED where it stood. -/
theorem reopened_inactive {f : OpenRouteFields} {lead : VehicleEnd} {g : FaultRecord}
    (h : g ∈ (reopened f lead s).sv.faults) (hs : g.subject = .none)
    (hc : g.code = .positionConflict ∨ g.code = .beaconMissed ∧ 2 ≤ s.pfu.miss) : g.active = false := by
  rw [(reopened_ends f lead s).1] at h
  obtain ⟨g', -, rfl⟩ := List.mem_map.1 h
  split_ifs at hs hc ⊢ with he
  · rfl
  · refine absurd ?_ he
    rcases hc with hc | ⟨hc, hm⟩ <;> simp [FaultRecord.isPart, *]

/-- Settles O14. -/
theorem openRouteStartsARoute : Obligations.OpenRouteStartsARoute := by
  intro h f lead s hr hd hh hst hlead hr0 hfirst hrref hu0
  have holder : holds (received h s) h.src = true := (holds_received_eq h s).trans hh
  have stands : atStandstill (received h s) = true := by simp [atStandstill, hst]
  have inRange : openRouteInRange f = true := openRouteInRange_iff.2 ⟨by rw [hlead]; rfl, hr0, hfirst, hrref, hu0⟩
  obtain ⟨-, hli, haa, hrw, hodo, hpfu, hss, hac, hct, hpath, hpending⟩ :=
    reportRoute_onlySv (reopened f lead (received h s))
  have items : windowItems (openRoute f lead (received h s)) = beBytes 2 f.firstIndex ++ beBytes 1 0 := by
    rw [openRoute_eq, windowItems, hrw]; rfl
  refine ⟨reportRoute (reopened f lead (received h s)), exec_answer rfl hr hd ?_, hrw, hodo, hpfu, fun k => ?_,
    fun g hg hc hs => reopened_inactive (reportRoute_mem hg (by rw [hc]; nofun)) hs (.inl hc), fun hm g hg hc hs =>
    reopened_inactive (reportRoute_mem hg (by rw [hc]; nofun)) hs (.inr ⟨hc, hm⟩), hpath, (reportRoute_route _).1,
    (reportRoute_route _).2.trans (congrArg Pfu.conf hpfu).symm, ?_, ?_, fun hv hk => ?_, hac, hct, hli, haa, hpending⟩
  · simp only [ownerTakes, takeOpenRoute, holder, stands, inRange, hlead, Bool.not_true, Bool.false_eq_true, if_false, items]
    rw [openRoute_eq]
  · rw [hss]
    show (if s.rw.lead = lead then s.ss else negateCarried s.ss).get k = _
    split_ifs
    · rfl
    · exact Quad.get_build _ k
  · refine (reportRoute_keeps _).1.trans ?_
    show (if _ then _ else _ : Sv).hold = _
    split_ifs <;> rfl
  · refine (reportRoute_keeps _).2.trans ?_
    show (if _ then _ else _ : Sv).latch = _
    split_ifs <;> rfl
  · obtain ⟨hview, hshort⟩ := view_unsteered hv hk
    have sv : (reopened f lead (received h s)).sv.view = s.sv.view ∧
        (reopened f lead (received h s)).sv.shortfall = s.sv.shortfall := by
      unfold reopened; dsimp only; split_ifs <;> exact ⟨rfl, rfl⟩
    have kept := reportRoute_keepsFaults (s := reopened f lead (received h s)) (by rw [sv.1]; exact hview) (sv.2.trans hshort)
    have ended : Ends _ s (reopened f lead (received h s)) := reopened_ends f lead (received h s)
    exact (ended.trans kept.ends fun _ => rfl).congr fun g => Bool.or_false _

/-! ### PLACE (R86) -/

/-- The state that an accepted PLACE reports: the position and the uncertainty set, the corrections on their way void, and
POSITION_CONFLICT inactive. -/
def placed (rRef u : Nat) (s : State) : State :=
  { s with
    odo := { s.odo with r := rRef * 1000 }
    pfu := { s.pfu with u := u * 1000, conf := confidenceFor s.ct.table u }
    path := voidCorrections s.path
    sv := s.sv.takeInactive .positionConflict .none }

theorem place_eq (rRef u : Nat) (s : State) : place rRef u s = reportRoute (placed rRef u s) := rfl

/-- Settles O18. -/
theorem placeSetsPositionAndUncertainty : Obligations.PlaceSetsPositionAndUncertainty := by
  intro h rRef u s hr hd hh ho hrref hu
  have holder : holds (received h s) h.src = true := (holds_received_eq h s).trans hh
  obtain ⟨-, hli, haa, hrw, hodo, hpfu, hss, hac, hct, hpath, hpending⟩ :=
    reportRoute_onlySv (placed rRef u (received h s))
  refine ⟨reportRoute (placed rRef u (received h s)), exec_answer rfl hr hd ?_, hodo, hpfu, fun g hg hc hs => ?_, hpath,
    (reportRoute_route _).2.trans (congrArg Pfu.conf hpfu).symm, (reportRoute_keeps _).1, (reportRoute_keeps _).2,
    fun hv hk => ?_, hrw, hss, hac, hct, hli, haa, hpending⟩
  · refine (takePlace_holder holder rRef u).trans ?_
    rw [if_neg (by simp [ho]), if_pos ⟨hrref, hu⟩, place_eq]
  · have hmem : g ∈ (placed rRef u (received h s)).sv.faults := reportRoute_mem hg (by rw [hc]; nofun)
    have hmem : g ∈ (reportInactive .positionConflict .none s).sv.faults := hmem
    exact reportInactive_inactive hmem hc hs
  · obtain ⟨hview, hshort⟩ := view_unsteered hv hk
    have kept := reportRoute_keepsFaults (s := placed rRef u (received h s)) hview hshort
    have ended : Ends _ s (placed rRef u (received h s)) := reportInactive_ends .positionConflict .none s
    exact (ended.trans kept.ends fun _ => rfl).congr fun g => Bool.or_false _

end Sys2Proof.Machine

/-! # SLEEP, wake, RESTART and the end of WAKING -/

namespace Sys2Proof.Machine

variable {s t u : State} {k : Chan}

/-! ### The records of a channel that leaves FAULTED (R120) -/

/-- Reports of inactivity for one channel end its records of these codes. -/
theorem foldl_inactive_ends (k : Chan) (codes : List FaultCode) (s : State) :
    Ends (fun f => codes.contains f.code && f.subject == .chan k) s
      (codes.foldl (fun s c => reportInactive c (.chan k) s) s) := by
  induction codes generalizing s with
  | nil => exact Ends.refl s
  | cons c codes ih =>
    refine ((reportInactive_ends c (.chan k) s).trans (ih _) fun _ => rfl).congr fun f => ?_
    rw [List.contains_cons, FaultRecord.concerns, ← Bool.and_or_distrib_right]

theorem foldl_inactive_sv (k : Chan) (codes : List FaultCode) (s : State) :
    let t := codes.foldl (fun s c => reportInactive c (.chan k) s) s
    t.sv.view = s.sv.view ∧ t.sv.routeOpen = s.sv.routeOpen ∧ t.sv.conf = s.sv.conf ∧ t.sv.shortfall = s.sv.shortfall ∧
      KeepsOrders s t := by
  induction codes generalizing s with
  | nil => exact ⟨rfl, rfl, rfl, rfl, rfl, rfl⟩
  | cons c codes ih => exact ih (reportInactive c (.chan k) s)

/-- What a channel's leaving of FAULTED ends, and what of the Supervisor it leaves. -/
theorem inactiveIfFaulted_ends (k : Chan) (s : State) :
    Ends (fun f => (s.ac.get k).state.isFaulted && f.isOf k) s (inactiveIfFaulted k s) := by
  unfold inactiveIfFaulted
  cases (s.ac.get k).state
  case faulted p => exact (foldl_inactive_ends k channelCodes s).congr fun f => rfl
  all_goals exact Ends.refl s

theorem inactiveIfFaulted_sv (k : Chan) (s : State) : (inactiveIfFaulted k s).sv.view = s.sv.view ∧
    (inactiveIfFaulted k s).sv.routeOpen = s.sv.routeOpen ∧ (inactiveIfFaulted k s).sv.conf = s.sv.conf ∧
    (inactiveIfFaulted k s).sv.shortfall = s.sv.shortfall ∧ KeepsOrders s (inactiveIfFaulted k s) := by
  unfold inactiveIfFaulted
  split
  · exact foldl_inactive_sv k channelCodes s
  · exact ⟨rfl, rfl, rfl, rfl, rfl, rfl⟩

theorem inactiveIfFaulted_onlySv (k : Chan) (s : State) : OnlySv s (inactiveIfFaulted k s) := by
  unfold inactiveIfFaulted
  split
  exacts [reportChannelInactive_onlySv k s, .refl s]

/-! ### Every fitted channel leaves its state (R125) -/

/-- A fitted channel's change to another record, its fault records ended if it was FAULTED. -/
def replaced (g : Channel → Channel) (k : Chan) (s : State) : State :=
  if fitted s k then
    commit k ⟨g ((inactiveIfFaulted k s).ac.get k), []⟩ (inactiveIfFaulted k s)
  else s

theorem sleepChannel_eq : sleepChannel = replaced fun c => { c.rested with conv := .none } := rfl

theorem restartChannel_eq : restartChannel = replaced fun c => c.rested.toHoming := rfl

variable {g : Channel → Channel}

theorem replaced_onlyAcSv (g : Channel → Channel) (k : Chan) (s : State) : OnlyAcSv s (replaced g k s) := by
  unfold replaced
  split_ifs
  exacts [(inactiveIfFaulted_onlyAcSv k s).trans (commit_onlyAcSv _ _ _), .refl s]

theorem replaced_get (hg : ∀ c, callsPartnerRule (g c) = false) (k : Chan) (s : State) (j : Chan) :
    (replaced g k s).ac.get j = if j = k then (if fitted s k then g (s.ac.get k) else s.ac.get k) else s.ac.get j := by
  unfold replaced
  split_ifs with hf hj hj
  · rw [commit_get_alone (hg _), if_pos hj, inactiveIfFaulted_ac]
  · rw [commit_get_alone (hg _), if_neg hj, inactiveIfFaulted_ac]
  · rw [hj]
  · rfl

theorem replaced_sheds (hc : s.sv.routeOpen = false) (g : Channel → Channel) (k : Chan) :
    Sheds (fun f => fitted s k && (s.ac.get k).state.isFaulted && f.isOf k) s (replaced g k s) := by
  unfold replaced
  split_ifs with hf
  · obtain ⟨-, hopen, -, hshort, horders⟩ := inactiveIfFaulted_sv k s
    have ended : Sheds (fun f => (s.ac.get k).state.isFaulted && f.isOf k) s (inactiveIfFaulted k s) := by
      refine ⟨hopen.trans hc, fun h => hshort ▸ h, (inactiveIfFaulted_ends k s).congr fun f => ?_, horders.2⟩
      rw [hshort]
      cases s.sv.shortfall <;> simp
    have hclosed := hopen.trans hc
    refine (ended.falls_trans (commit_falls (calm_of_closed hclosed) (steersAs_closed hclosed) nofun)).congr fun f => ?_
    rw [hf, Bool.true_and]
  · have same : Falls False s s := .refl (calm_of_closed hc)
    exact (same.sheds hc).congr fun f => by simp [hf]

/-- Every fitted channel's change, with what ends of its fault records (R120). -/
theorem eachReplaced_sheds (hg : ∀ c, callsPartnerRule (g c) = false) (hc : s.sv.routeOpen = false) :
    Sheds (ofFaultedChannel s) s (eachChannel (replaced g) s) := by
  have step {t : State} (k : Chan) (ht : t.sv.routeOpen = false) (ho : OnlyAcSv s t) (hk : t.ac.get k = s.ac.get k) :
      Sheds (fun f => fitted s k && (s.ac.get k).state.isFaulted && f.isOf k) t (replaced g k t) ∧
        OnlyAcSv s (replaced g k t) := by
    refine ⟨(replaced_sheds ht g k).congr fun f => ?_, ho.trans (replaced_onlyAcSv g k t)⟩
    rw [hk, ho.fitted_eq]
  obtain ⟨h1, o1⟩ := step .c1 hc (.refl s) rfl
  obtain ⟨h2, o2⟩ := step .c2 h1.closed o1 (by simp [replaced_get hg])
  obtain ⟨h3, o3⟩ := step .c3 h2.closed o2 (by simp [replaced_get hg])
  obtain ⟨h4, -⟩ := step .c4 h3.closed o3 (by simp [replaced_get hg])
  have all := ((h1.trans h2 fun _ => rfl).trans h3 fun _ => rfl).trans h4 fun _ => rfl
  exact all.congr fun f => by simp [ofFaultedChannel, Chan.all, Bool.or_assoc]

theorem eachReplaced_get (hg : ∀ c, callsPartnerRule (g c) = false) (s : State) :
    OnlyAcSv s (eachChannel (replaced g) s) ∧
      ∀ k, (eachChannel (replaced g) s).ac.get k = if fitted s k then g (s.ac.get k) else s.ac.get k := by
  refine eachChannel_get (get := fun t k => t.ac.get k) (g := fun k c => if fitted s k then g c else c)
    (P := fun t => OnlyAcSv s t) (fun k t ht => ⟨ht.trans (replaced_onlyAcSv g k t), fun j => ?_⟩) (.refl s)
  rw [replaced_get hg, ht.fitted_eq]

/-! ### The schedule's records at their power-on values (R28) -/

theorem resetRecord_onlySv (k : Chan) (s : State) : OnlySv (s.setSs (s.ss.set k SsRec.reset)) (resetRecord k s) := by
  unfold resetRecord
  dsimp only
  split_ifs
  exacts [reportSource_onlySv _ _, .refl _]

theorem resetRecord_keeps (k : Chan) (s : State) : KeepsOrders s (resetRecord k s) := by
  unfold resetRecord
  dsimp only
  split_ifs
  exacts [reportSource_keeps k (s.setSs _), ⟨rfl, rfl⟩]

/-- A channel not seen steering, or no route seen open: the reset of its record changes no fault record. -/
theorem resetRecord_falls {kept : Prop} (h : Calm kept s)
    (hs : s.sv.routeOpen = true → (s.sv.view.get k).state.steers = false) : Falls kept s (resetRecord k s) := by
  unfold resetRecord
  dsimp only
  have put : Falls kept s (s.setSs (s.ss.set k SsRec.reset)) := .of_sv h rfl
  split_ifs
  exacts [put.trans (reportSource_falls (s := s.setSs _) h hs), put]

/-- Every record at its power-on values; of the rest only the Supervisor's view and what it derives. -/
theorem resetRecords_get (s : State) : (OnlySv (s.setSs (resetRecords s).ss) (resetRecords s) ∧
    KeepsOrders s (resetRecords s)) ∧ ∀ k, (resetRecords s).ss.get k = SsRec.reset := by
  refine eachChannel_get (f := resetRecord) (get := fun t k => t.ss.get k) (g := fun _ _ => SsRec.reset)
    (P := fun t => OnlySv (s.setSs t.ss) t ∧ KeepsOrders s t) ?_ ⟨.refl s, .refl s⟩
  rintro k t ⟨hs, ho⟩
  have only := resetRecord_onlySv k t
  have hss : (resetRecord k t).ss = t.ss.set k SsRec.reset := by
    obtain ⟨-, -, -, -, -, -, hss, -⟩ := only
    exact hss
  refine ⟨⟨?_, ho.trans (resetRecord_keeps k t)⟩, fun j => ?_⟩
  · obtain ⟨h1, h2, h3, h4, h5, h6, -, h8, h9, h10, h11⟩ := hs
    have before : OnlySv (s.setSs (resetRecord k t).ss) (t.setSs (t.ss.set k SsRec.reset)) :=
      ⟨h1, h2, h3, h4, h5, h6, hss.symm, h8, h9, h10, h11⟩
    exact before.trans only
  · show (resetRecord k t).ss.get j = _
    rw [hss]
    show (t.ss.set k SsRec.reset).get j = _
    split_ifs with hj
    · rw [hj, Quad.get_set_self]
    · rw [Quad.get_set_ne _ _ hj]

theorem resetRecord_view (k j : Chan) (s : State) :
    ((resetRecord k s).sv.view.get j).state = (s.sv.view.get j).state := by
  unfold resetRecord
  dsimp only
  split_ifs
  exacts [(reportSource_view k j (s.setSs _)).1, rfl]

/-- While no channel is seen steering, or no route is seen open, the reset of every record changes no fault record. -/
theorem resetRecords_falls {kept : Prop} (h : Calm kept s)
    (hs : s.sv.routeOpen = true → ∀ k, (s.sv.view.get k).state.steers = false) : Falls kept s (resetRecords s) := by
  have step {t : State} (k : Chan) (ht : Falls kept s t) (hv : ∀ j, (t.sv.view.get j).state = (s.sv.view.get j).state) :
      Falls kept s (resetRecord k t) ∧ ∀ j, ((resetRecord k t).sv.view.get j).state = (s.sv.view.get j).state := by
    refine ⟨ht.trans (resetRecord_falls ht.calm fun ho => ?_), fun j => (resetRecord_view k j t).trans (hv j)⟩
    rw [hv]; exact hs (ht.route.1.symm.trans ho) k
  obtain ⟨h1, v1⟩ := step .c1 (.refl h) fun _ => rfl
  obtain ⟨h2, v2⟩ := step .c2 h1 v1
  obtain ⟨h3, v3⟩ := step .c3 h2 v2
  exact (step .c4 h3 v3).1

/-! ### The end of a service with a mode change pending (R171, R191, R194) -/

theorem endOfService_replied {v : Service} (hv : s.li.service = some v) (hr : v.reply ≠ none) :
    endOfService s = serve (endService (s.setLi (s.li.flag .hunting s.li.inFrame))) := by
  obtain ⟨r, hr⟩ := Option.ne_none_iff_exists'.1 hr
  unfold endOfService
  simp only [hv, hr]

theorem replyDrop_late {v : Service} (hv : s.li.service = some v) (hr : v.reply = none) (ha : 500 ≤ v.age) :
    replyDrop s = serve (endService s) := by
  unfold replyDrop
  rw [hv]
  exact if_pos ⟨by rw [hr]; rfl, ha⟩

theorem endService_restart (h : s.ct.pendingMode = .restart) :
    endService s = restartEffects (s.setLi { s.li with service := none }) := by
  unfold endService applyPendingMode
  rw [show (s.setLi { s.li with service := none }).ct.pendingMode = .restart from h]

theorem endService_setLi_restart {l : Li} (h : s.ct.pendingMode = .restart) :
    endService (s.setLi l) = restartEffects (s.setLi { l with service := none }) := endService_restart (s := s.setLi l) h

theorem endService_sleep (h : s.ct.pendingMode = .sleep) :
    endService s = sleepEntry (s.setLi { s.li with service := none }) := by
  unfold endService applyPendingMode
  rw [show (s.setLi { s.li with service := none }).ct.pendingMode = .sleep from h]

theorem endService_plain (h : s.ct.pendingMode = .none) : endService s = s.setLi { s.li with service := none } := by
  unfold endService applyPendingMode
  rw [show (s.setLi { s.li with service := none }).ct.pendingMode = .none from h]

theorem serve_of_empty (h : s.li.queue = []) : serve s = s := by unfold serve; rw [h]; rfl

/-- The closing of the window and a change of every fitted channel, with all that they end. -/
theorem closed_replaced_sheds (hg : ∀ c, callsPartnerRule (g c) = false) {s w : State} (hw : Sheds (ofMissedBeacons s) s w)
    (hac : w.ac = s.ac) (hct : w.ct = s.ct) : Sheds (fun f => ofFaultedChannel s f || ofMissedBeacons s f) s (eachChannel (replaced g) w) := by
  have faulted (f : FaultRecord) : ofFaultedChannel w f = ofFaultedChannel s f := by
    unfold ofFaultedChannel fitted
    rw [hac, hct]
  exact (hw.trans (eachReplaced_sheds hg hw.closed) fun _ => rfl).congr fun f => by rw [faulted, Bool.or_comm]

/-- What is shed, where nothing is left of HORIZON_SHORTFALL. -/
theorem Sheds.ends_faulted_route (h : Sheds (fun f => ofFaultedChannel s f || ofMissedBeacons s f) s t)
    (ht : t.sv.shortfall = false) : Ends (fun f => ofFaultedChannel s f || ofOpenRoute s f) s t :=
  h.ends.congr fun f => by
    rw [ht, Bool.not_false, Bool.and_true, Bool.or_assoc]; rfl

/-- After it, no record of a channel that was FAULTED is active. -/
theorem Sheds.channel_inactive (h : Sheds (fun f => ofFaultedChannel s f || ofMissedBeacons s f) s t)
    (hf : fitted s k = true) (hk : (s.ac.get k).state.isFaulted = true) {f : FaultRecord} (hm : f ∈ t.sv.faults)
    (hs : f.subject = .chan k) (hc : f.code ∈ channelCodes) : f.active = false := by
  rw [h.ends.1] at hm
  obtain ⟨f', -, rfl⟩ := List.mem_map.1 hm
  split_ifs at hs hc ⊢ with he
  · rfl
  · refine absurd ?_ he
    have : ofFaultedChannel s f' = true := by
      simp only [ofFaultedChannel, List.any_eq_true, Chan.mem_all, true_and]
      exact ⟨k, by simp [hf, hk, FaultRecord.isOf, hs, hc]⟩
    simp [this]

/-! ### SLEEP (R191) -/

/-- The state at the entry to SLEEP, before the route is closed. -/
def quieted (s : State) : State :=
  (((s.setLi s.li.asleep).setAa Aa.reset).setOdo s.odo.asleep).setPath Path.empty

theorem sleepEntry_eq (s : State) : sleepEntry s =
    let t := eachChannel (replaced fun c => { c.rested with conv := .none }) (closeWindow (quieted s))
    (t.setSv { t.sv with hold := .none }).setCt { t.ct with gain := 100, mode := .sleep, stab := none, pendingMode := .none } :=
  rfl

theorem rested_still_eq (ch : Channel) : ({ ch.rested with conv := .none } : Channel) = { ch with
    state := .unhomed, theta := 0, sched := 0, persist := 0, mark := false, untrusted := false, homingT := none,
    lockT := none, settle := none, centringT := none, conv := .none, drive := .off, solenoid := false } := rfl

theorem rested_homing_eq (ch : Channel) : ch.rested.toHoming = { ch with
    state := .homing .assessing, theta := 0, sched := 0, persist := 0, mark := false, untrusted := false,
    homingT := some 0, lockT := none, settle := none, centringT := none, drive := .off, solenoid := false,
    conv := if ch.conv = .none then .inFlight false else .inFlight true } := toHoming_eq ch.rested

/-- What the entry to SLEEP leaves and ends. -/
structure Asleep (s t : State) : Prop where
  power : t.power = s.power
  ct : t.ct = { s.ct with gain := 100, mode := .sleep, stab := none, pendingMode := .none }
  li : t.li = s.li.asleep
  aa : t.aa = Aa.reset
  rw : t.rw = Rw.reset
  odo : t.odo = s.odo.asleep
  pfu : t.pfu = { s.pfu with conf := .unplaced, miss := 0, missTold := false, marks := [] }
  ss : t.ss = s.ss
  ac : ∀ k, t.ac.get k = if fitted s k then { (s.ac.get k).rested with conv := .none } else s.ac.get k
  hold : t.sv.hold = .none
  sheds : Sheds (fun f => ofFaultedChannel s f || ofMissedBeacons s f) s t
  shortfall : ViewInv s → t.sv.shortfall = false
  path : t.path = Path.empty
  pending : t.pending = s.pending

theorem sleepEntry_asleep (s : State) : Asleep s (sleepEntry s) := by
  rw [sleepEntry_eq]
  obtain ⟨hw, hsheds, -, -, -⟩ := closeWindow_sheds (quieted s)
  have unmet : ViewInv s → (closeWindow (quieted s)).sv.shortfall = false := fun hv =>
    closeWindow_no_shortfall (s := quieted s) hv
  have closing := closed_replaced_sheds (g := fun c => { c.rested with conv := .none }) (fun _ => rfl) hsheds
  obtain ⟨hac, hget⟩ := eachReplaced_get (g := fun c => { c.rested with conv := .none }) (fun _ => rfl)
    (closeWindow (quieted s))
  have each := eachReplaced_sheds (g := fun c => { c.rested with conv := .none }) (fun _ => rfl) hsheds.closed
  generalize closeWindow (quieted s) = w at *
  generalize eachChannel (replaced fun c => { c.rested with conv := .none }) w = t at *
  obtain ⟨wpower, wli, waa, wrw, wodo, wpfu, wss, wac, wct, wpath, wpending⟩ := hw
  have closing := closing wac wct
  obtain ⟨tpower, tli, taa, trw, todo, tpfu, tss, tct, tpath, tpending⟩ := hac
  refine ⟨tpower.trans wpower, ?_, tli.trans wli, taa.trans waa, trw.trans wrw, todo.trans wodo, tpfu.trans wpfu,
    tss.trans wss, fun k => ?_, rfl, ?_, fun hv => ?_, tpath.trans wpath, tpending.trans wpending⟩
  · show ({ t.ct with gain := 100, mode := .sleep, stab := none, pendingMode := .none } : Ct) = _
    rw [tct, wct]; rfl
  · show t.ac.get k = _
    rw [hget, fitted, wac, wct]; rfl
  · exact ⟨closing.closed, closing.falls, closing.ends, closing.latch⟩
  · exact Bool.eq_false_iff.2 fun h => absurd ((unmet hv).symm.trans (each.falls h)) nofun

/-- Settles O35. -/
theorem sleepBeginsAtTheEndOfItsService : Obligations.SleepBeginsAtTheEndOfItsService := by
  intro s v hon hv hp asleep
  have begins {l : Li} (line : LineState) (hl : l.asleep = { s.li with
      receiver := .stopped, inFrame := false, line := line, ones := 0, queue := [], service := none, overrun := false }) :
      asleep line (sleepEntry (s.setLi l)) := by
    have h := sleepEntry_asleep (s.setLi l)
    refine ⟨h.power.trans hon, h.ct, h.li.trans hl, h.aa, h.rw, h.odo, h.pfu, h.ss, h.ac, h.hold, h.sheds.latch,
      h.sheds.ends.onlyEnds, fun hview => h.sheds.ends_faulted_route (h.shortfall hview), fun k hf hk f hm hs hc => ?_, h.path,
      h.pending⟩
    obtain ⟨p, hk⟩ := hk
    exact h.sheds.channel_inactive (k := k) hf (by show (s.ac.get k).state.isFaulted = true; rw [hk]; rfl) hm hs hc
  refine ⟨fun hr => ⟨_, exec_event_eq hon ?_, begins (l := { s.li.flag .hunting s.li.inFrame with service := none }) .busy rfl⟩,
    fun hr ha => ⟨_, exec_event_eq hon ?_, begins (l := { s.li with service := none }) s.li.line rfl⟩⟩
  · rw [endOfService_replied hv hr, endService_sleep (s := s.setLi (s.li.flag .hunting s.li.inFrame)) hp]
    exact serve_of_empty (by rw [(sleepEntry_asleep _).li]; rfl)
  · rw [replyDrop_late hv hr ha, endService_sleep hp]
    exact serve_of_empty (by rw [(sleepEntry_asleep _).li]; rfl)

/-! ### RESTART (R194) -/

theorem restartEffects_eq (s : State) : restartEffects s =
    let t := eachChannel (replaced fun c => c.rested.toHoming) (resetRecords (closeWindow (s.setAa Aa.reset)))
    (t.setSv { t.sv with hold := .none }).setCt { t.ct with gain := 100, pendingMode := .none } := by
  unfold restartEffects
  rw [restartChannel_eq]
  dsimp only
  generalize eachChannel (replaced fun c => c.rested.toHoming) (resetRecords (closeWindow (s.setAa Aa.reset))) = t
  rfl

/-- What RESTART leaves and ends. -/
structure Restarted (s t : State) : Prop where
  power : t.power = s.power
  ct : t.ct = { s.ct with gain := 100, pendingMode := .none }
  li : t.li = s.li
  aa : t.aa = Aa.reset
  rw : t.rw = Rw.reset
  odo : t.odo = s.odo
  pfu : t.pfu = { s.pfu with conf := .unplaced, miss := 0, missTold := false, marks := [] }
  ss : ∀ k, t.ss.get k = SsRec.reset
  ac : ∀ k, t.ac.get k = if fitted s k then (s.ac.get k).rested.toHoming else s.ac.get k
  hold : t.sv.hold = .none
  sheds : Sheds (fun f => ofFaultedChannel s f || ofMissedBeacons s f) s t
  shortfall : ViewInv s → t.sv.shortfall = false
  path : t.path = { s.path with marks := s.path.marks.map fun m => { m with isVoid := true } }
  pending : t.pending = s.pending

theorem restartEffects_restarted (s : State) : Restarted s (restartEffects s) := by
  rw [restartEffects_eq]
  obtain ⟨hw, hsheds, -, -, -⟩ := closeWindow_sheds (s.setAa Aa.reset)
  have unmet : ViewInv s → (closeWindow (s.setAa Aa.reset)).sv.shortfall = false := fun hv =>
    closeWindow_no_shortfall (s := s.setAa Aa.reset) hv
  generalize closeWindow (s.setAa Aa.reset) = w at *
  obtain ⟨⟨hr, -⟩, hreset⟩ := resetRecords_get w
  have records := resetRecords_falls (calm_of_closed hsheds.closed) fun ho => absurd (hsheds.closed.symm.trans ho) nofun
  generalize resetRecords w = r at *
  obtain ⟨wpower, wli, waa, wrw, wodo, wpfu, wss, wac, wct, wpath, wpending⟩ := hw
  obtain ⟨rpower, rli, raa, rrw, rodo, rpfu, -, rac, rct, rpath, rpending⟩ := hr
  have reset := hsheds.falls_trans records
  have closing := closed_replaced_sheds (g := fun c => c.rested.toHoming) (fun _ => rfl) reset (rac.trans wac) (rct.trans wct)
  obtain ⟨hac, hget⟩ := eachReplaced_get (g := fun c => c.rested.toHoming) (fun _ => rfl) r
  have each := eachReplaced_sheds (g := fun c => c.rested.toHoming) (fun _ => rfl) reset.closed
  generalize eachChannel (replaced fun c => c.rested.toHoming) r = t at *
  obtain ⟨tpower, tli, taa, trw, todo, tpfu, tss, tct, tpath, tpending⟩ := hac
  refine ⟨tpower.trans (rpower.trans wpower), ?_, tli.trans (rli.trans wli), taa.trans (raa.trans waa),
    trw.trans (rrw.trans wrw), todo.trans (rodo.trans wodo), tpfu.trans (rpfu.trans wpfu), fun k => ?_, fun k => ?_, rfl, ?_,
    fun hv => ?_, tpath.trans (rpath.trans wpath), tpending.trans (rpending.trans wpending)⟩
  · show ({ t.ct with gain := 100, pendingMode := .none } : Ct) = _
    rw [tct, show r.ct = s.ct from rct.trans wct]
  · show t.ss.get k = _
    rw [tss]; exact hreset k
  · show t.ac.get k = _
    have hrac : r.ac = s.ac := rac.trans wac
    have hrct : r.ct = s.ct := rct.trans wct
    rw [hget, fitted, hrac, hrct]; rfl
  · exact ⟨closing.closed, closing.falls, closing.ends, closing.latch⟩
  · exact Bool.eq_false_iff.2 fun h => absurd ((unmet hv).symm.trans (records.falls (each.falls h))) nofun

/-- A service put back in the state after its end ends again as from there. -/
theorem endOfService_again {v : Service} {l : Li} (hr : v.reply ≠ none)
    (hl : t.li = { l.flag .hunting l.inFrame with service := none }) :
    endOfService (t.setLi { t.li with service := some v }) = serve (endService t) := by
  rw [endOfService_replied (s := t.setLi { t.li with service := some v }) rfl hr]
  have same : ((t.setLi { t.li with service := some v }).li.flag .hunting
      (t.setLi { t.li with service := some v }).li.inFrame) = { t.li with service := some v } := by
    show Li.flag { t.li with service := some v } .hunting t.li.inFrame = _
    rw [hl]; rfl
  rw [same]; rfl

theorem replyDrop_again {v : Service} (hr : v.reply = none) (ha : 500 ≤ v.age) :
    replyDrop (t.setLi { t.li with service := some v }) = serve (endService t) := by
  rw [replyDrop_late (s := t.setLi { t.li with service := some v }) rfl hr ha]; rfl

/-- With no service and no mode change pending there is nothing to end. -/
theorem endService_idle (hp : t.ct.pendingMode = .none) (hs : t.li.service = none) : endService t = t := by
  rw [endService_plain hp]
  have back : { t.li with service := none } = t.li := by rw [← hs]
  rw [back]; rfl

/-- Settles O36. -/
theorem restartTakesEffectAtTheEndOfItsService : Obligations.RestartTakesEffectAtTheEndOfItsService := by
  intro s v hon hv hp restarted again
  have effects {l : Li} {t : State} (h : Restarted (s.setLi l) t) : restarted l t := by
    refine ⟨h.power.trans hon, h.ct, h.li, h.aa, h.rw, h.odo, h.pfu, h.ss, fun _ k => (h.ac k).trans ?_, h.hold, h.sheds.latch,
      h.sheds.ends.onlyEnds, fun hview => h.sheds.ends_faulted_route (h.shortfall hview), h.path, h.pending⟩
    rw [rested_homing_eq]; rfl
  have after {c : Instr} {f : State → State} {l : Li} {t : State} (h : Restarted (s.setLi l) t)
      (he : ∀ s, exec c s = runEvent f s) (hf : f s = serve t) (ha : f (again t) = serve t) (hq : s.li.queue = l.queue) :
      ∃ t, restarted l t ∧ (s.li.queue = [] → exec c s = .next t) ∧ exec c s = exec c (again t) ∧ ∃ u, exec c s = .next u := by
    have first : exec c s = .next (serve t) := exec_event_eq hon hf (he s)
    have onward : (again t).power = .on := h.power.trans hon
    refine ⟨t, effects h, fun hempty => first.trans (congrArg _ (serve_of_empty ?_)), first.trans ?_, _, first⟩
    · rw [h.li]; exact hq.symm.trans hempty
    · exact (exec_event_eq onward ha (he _)).symm
  refine ⟨fun hr => ?_, fun hr ha => ?_⟩
  · have h := restartEffects_restarted (s.setLi { s.li.flag .hunting s.li.inFrame with service := none })
    have ends := (endOfService_replied hv hr).trans (congrArg serve (endService_setLi_restart hp))
    generalize restartEffects (s.setLi { s.li.flag .hunting s.li.inFrame with service := none }) = t at h ends
    have idle : endService t = t := endService_idle (by rw [h.ct]) (by rw [h.li]; rfl)
    exact after h (fun _ => rfl) ends ((endOfService_again hr h.li).trans (congrArg serve idle)) rfl
  · have h := restartEffects_restarted (s.setLi { s.li with service := none })
    have ends := (replyDrop_late hv hr ha).trans (congrArg serve (endService_restart hp))
    generalize restartEffects (s.setLi { s.li with service := none }) = t at h ends
    have idle : endService t = t := endService_idle (by rw [h.ct]) (by rw [h.li]; rfl)
    exact after h (fun _ => rfl) ends ((replyDrop_again hr ha).trans (congrArg serve idle)) rfl

end Sys2Proof.Machine

/-! # Waking, and the configuration -/

namespace Sys2Proof.Machine

variable {s t u : State} {k : Chan}

/-! ### WAKE and the stabilisation timer's expiry (R189, R192) -/

/-- Outside RUN no channel is seen steering, and the condition of HORIZON_SHORTFALL is not met. -/
theorem view_unsteered_outside_run (h : Inv s) (hm : s.ct.mode ≠ .run) :
    (∀ k, (s.sv.view.get k).state.steers = false) ∧ s.sv.shortfall = false := by
  obtain ⟨-, -, -, -, ⟨-, habsent, hout, -⟩, -, -, hview, -⟩ := h
  refine view_unsteered hview fun k => ?_
  by_cases hf : fitted s k = true
  · rw [hout hm k hf]; exact ⟨nofun, nofun⟩
  · rw [(habsent k).2 (Bool.eq_false_iff.2 hf)]; exact ⟨nofun, nofun⟩

theorem homeChannel_get (k : Chan) (s : State) (j : Chan) : (homeChannel k s).ac.get j =
    if j = k then (if fitted s k then (s.ac.get k).toHoming else s.ac.get k) else s.ac.get j := by
  unfold homeChannel
  split_ifs with hf hj hj
  · rw [commit_get_alone rfl, if_pos hj]
  · rw [commit_get_alone rfl, if_neg hj]
  · rw [hj]
  · rfl

theorem homeAll_get (s : State) : (OnlyAcSv s (eachChannel homeChannel s) ∧ KeepsOrders s (eachChannel homeChannel s)) ∧
    ∀ k, (eachChannel homeChannel s).ac.get k = if fitted s k then (s.ac.get k).toHoming else s.ac.get k := by
  refine eachChannel_get (get := fun t k => t.ac.get k) (g := fun k ch => if fitted s k then ch.toHoming else ch)
    (P := fun t => OnlyAcSv s t ∧ KeepsOrders s t) ?_ ⟨.refl s, .refl s⟩
  rintro k t ⟨hac, ho⟩
  have hct : t.ct = s.ct := by
    obtain ⟨-, -, -, -, -, -, -, hct, -⟩ := hac
    exact hct
  refine ⟨?_, fun j => ?_⟩
  · unfold homeChannel
    split_ifs
    exacts [⟨hac.trans (commit_onlyAcSv k _ t), ho.trans (commit_keepsOrders k _ t)⟩, ⟨hac, ho⟩]
  · rw [homeChannel_get, fitted, hct]; rfl

/-- Homing channels that do not steer changes no fault record. -/
theorem homeAll_falls (hc : Calm True s) (hs : Seen s) (hn : ∀ k, (s.ac.get k).state.steers = false) :
    Falls True s (eachChannel homeChannel s) := by
  have step {t : State} (k : Chan) (h : Falls True s t ∧ Seen t ∧ ∀ j, (t.ac.get j).state.steers = false) :
      Falls True s (homeChannel k t) ∧ Seen (homeChannel k t) ∧ ∀ j, ((homeChannel k t).ac.get j).state.steers = false := by
    obtain ⟨hf, hseen, hsteer⟩ := h
    refine ⟨?_, ?_, fun j => ?_⟩
    · unfold homeChannel
      split_ifs
      · refine hf.trans (commit_homing_falls rfl hf.calm ?_)
        rw [(hseen k).1]; exact hsteer k
      · exact hf
    · unfold homeChannel
      split_ifs
      exacts [commit_seen hseen k _, hseen]
    · rw [homeChannel_get]
      split_ifs
      exacts [rfl, hsteer k, hsteer j]
  exact (step .c4 (step .c3 (step .c2 (step .c1 ⟨.refl hc, hs, hn⟩)))).1

/-- WAKING as the wake begins it, the schedule's records not yet reset. -/
def woken (s : State) : State :=
  { s with
    ct := { s.ct with mode := .waking, stab := some ⟨s.ct.table.stabTime, 0⟩ }
    odo := s.odo.awake s.ct.table.frameInterval
    li := { s.li with receiver := .waiting, inFrame := true, line := .busy, ones := 0 }
    aa := Aa.reset }

theorem wake_eq (h : s.ct.mode = .sleep) : wake s = resetRecords (woken s) := if_pos h

/-- Settles O37. -/
theorem wakingBeginsAndEnds : Obligations.WakingBeginsAndEnds := by
  intro s hon
  refine ⟨fun hm => ?_, fun hm => ?_, fun tm hm hst => ?_, fun hnot => ?_⟩
  · refine ⟨_, exec_event_eq hon (wake_eq hm) rfl, ?_⟩
    obtain ⟨⟨hss, hkeeps⟩, hreset⟩ := resetRecords_get (woken s)
    obtain ⟨hpower, hli, haa, hrw, hodo, hpfu, -, hac, hct, hpath, hpending⟩ := hss
    refine ⟨hct, hodo, hli, haa, hreset, hac, hkeeps, fun hinv => ?_, hrw, hpfu, hpath, hpower.trans hon, hpending⟩
    have calm : Calm True (woken s) := by
      obtain ⟨-, -, -, -, -, -, -, hview, -⟩ := hinv
      obtain ⟨-, -, -, hderived⟩ := (ViewInv_iff s).1 hview
      exact hderived.calm
    obtain ⟨hview, -⟩ := view_unsteered_outside_run hinv (by rw [hm]; exact nofun)
    exact (resetRecords_falls calm fun _ => hview).keeps
  · exact exec_event_eq hon (if_neg hm) rfl
  · have expired : stabilisationExpiry s = eachChannel homeChannel (s.setCt { s.ct with mode := .run, stab := none }) := by
      unfold stabilisationExpiry; rw [hm, hst]
    refine ⟨_, exec_event_eq hon expired rfl, ?_⟩
    obtain ⟨⟨hac, hkeeps⟩, hget⟩ := homeAll_get (s.setCt { s.ct with mode := .run, stab := none })
    obtain ⟨hpower, hli, haa, hrw, hodo, hpfu, hss, hct, hpath, hpending⟩ := hac
    refine ⟨hct, fun k => ?_, hkeeps, fun hinv => ?_, hli, haa, hrw, hodo, hpfu, hss, hpath, hpower.trans hon, hpending⟩
    · rw [hget, toHoming_eq]; rfl
    · have outside := view_unsteered_outside_run hinv (by rw [hm]; exact nofun)
      obtain ⟨-, -, -, -, -, -, -, hview, -⟩ := hinv
      obtain ⟨hseen, -, -, hderived⟩ := (ViewInv_iff s).1 hview
      have calm : Calm True s := hderived.calm
      refine (homeAll_falls (s := s.setCt { s.ct with mode := .run, stab := none }) calm hseen fun k => ?_).keeps
      exact (congrArg ChanState.steers (hseen k).1.symm).trans (outside.1 k)
  · refine exec_event_eq hon ?_ rfl
    unfold stabilisationExpiry
    rcases hnot with hm | hst
    · cases hmode : s.ct.mode
      case waking => exact absurd hmode hm
      all_goals rfl
    · rw [hst]; cases s.ct.mode <;> rfl

/-! ### One operation on every channel, and what it ends -/

/-- An operation on every channel in turn that changes one channel at a time ends what it ends at each. -/
theorem eachChannel_ends {f : Chan → State → State} {e : Chan → FaultRecord → Bool} {P : State → Prop}
    (he : ∀ k (g : FaultRecord), e k { g with active := false } = e k g)
    (hf : ∀ k t, t.ac.get k = s.ac.get k → P t →
      Ends (e k) t (f k t) ∧ P (f k t) ∧ ∀ j, j ≠ k → (f k t).ac.get j = t.ac.get j)
    (hs : P s) : Ends (fun g => Chan.all.any fun k => e k g) s (eachChannel f s) := by
  obtain ⟨e1, p1, a1⟩ := hf .c1 s rfl hs
  obtain ⟨e2, p2, a2⟩ := hf .c2 _ (a1 .c2 nofun) p1
  obtain ⟨e3, p3, a3⟩ := hf .c3 _ ((a2 .c3 nofun).trans (a1 .c3 nofun)) p2
  obtain ⟨e4, -, -⟩ := hf .c4 _ ((a3 .c4 nofun).trans ((a2 .c4 nofun).trans (a1 .c4 nofun))) p3
  refine (((e1.trans e2 (he .c2)).trans e3 (he .c3)).trans e4 (he .c4)).congr fun g => ?_
  simp [Chan.all, Bool.or_assoc]

/-! ### A change of fitting at one channel (R123) -/

section Refit

variable {before : ConfigTable}

theorem refit_gone (hb : before.fitted k = true) (hf : fitted s k = false) :
    refit before k s = commit k ⟨(s.ac.get k).toAbsent, []⟩ (inactiveIfFaulted k s) := by
  unfold refit
  rw [if_pos ⟨hb, by simp [hf]⟩]
  dsimp only
  rw [inactiveIfFaulted_ac]

/-- The record of a channel made fitted, reset and reported. -/
def recordReset (k : Chan) (s : State) : State := reportSource k (s.setSs (s.ss.set k SsRec.reset))

theorem recordReset_onlySv (k : Chan) (s : State) : OnlySv (s.setSs (s.ss.set k SsRec.reset)) (recordReset k s) :=
  reportSource_onlySv k _

theorem refit_new (hb : before.fitted k = false) (hf : fitted s k = true) (hm : s.ct.mode = .run) :
    refit before k s = commit k ⟨({ s.ac.get k with persist := 0 } : Channel).toUnhomed.toHoming, []⟩
      (putChannel k { s.ac.get k with persist := 0 } (recordReset k s)) := by
  unfold refit
  obtain ⟨-, -, -, -, -, -, -, hac, hct, -⟩ := recordReset_onlySv k s
  have hmode : (putChannel k { (recordReset k s).ac.get k with persist := 0 } (recordReset k s)).ct.mode = .run :=
    (congrArg Ct.mode hct).trans hm
  rw [if_neg (by simp [hb]), if_pos ⟨by simp [hb], hf⟩]
  show rehome k (putChannel k { (recordReset k s).ac.get k with persist := 0 } (recordReset k s)) = _
  unfold rehome
  dsimp only
  rw [if_pos hmode, putChannel_ac, Quad.get_set_self, hac]; rfl

theorem refit_same (h : before.fitted k = fitted s k) : refit before k s = s := by
  unfold refit
  rw [if_neg (by simp [h]), if_neg (by simp [h])]

/-- The record of a channel and of its schedule after a change of its fittedness (R29, R98, R123). -/
def refitted (was is : Bool) (c : Channel × SsRec) : Channel × SsRec :=
  match was, is with
  | true, false => (c.1.toAbsent, c.2)
  | false, true => (({ c.1 with persist := 0 } : Channel).toUnhomed.toHoming, SsRec.reset)
  | _, _ => c

theorem refitted_same (b : Bool) (c : Channel × SsRec) : refitted b b c = c := by cases b <;> rfl

/-- One of the three ways a change of fitting goes at a channel. -/
theorem refit_cases (before : ConfigTable) (k : Chan) (s : State) : before.fitted k = fitted s k ∨
    (before.fitted k = true ∧ fitted s k = false) ∨ (before.fitted k = false ∧ fitted s k = true) := by
  cases before.fitted k <;> cases fitted s k <;> simp

theorem refit_get (before : ConfigTable) (hm : s.ct.mode = .run) (k j : Chan) :
    ((refit before k s).ac.get j, (refit before k s).ss.get j) =
      if j = k then refitted (before.fitted k) (fitted s k) (s.ac.get k, s.ss.get k) else (s.ac.get j, s.ss.get j) := by
  rcases refit_cases before k s with h | ⟨hb, hf⟩ | ⟨hb, hf⟩
  · rw [refit_same h, h, refitted_same]
    split_ifs with hj
    exacts [by rw [hj], rfl]
  · have hss : (refit before k s).ss = s.ss := by
      rw [refit_gone hb hf]
      obtain ⟨-, -, -, -, -, -, hss, -⟩ := commit_onlyAcSv k ⟨(s.ac.get k).toAbsent, []⟩ (inactiveIfFaulted k s)
      obtain ⟨-, -, -, -, -, -, hss', -⟩ := inactiveIfFaulted_onlySv k s
      exact hss.trans hss'
    rw [hss, hb, hf, refit_gone hb hf, commit_get_alone rfl, inactiveIfFaulted_ac]
    split_ifs with hj
    exacts [by rw [hj]; rfl, rfl]
  · obtain ⟨-, -, -, -, -, -, hss', hac', -⟩ := recordReset_onlySv k s
    have hss : (refit before k s).ss = s.ss.set k SsRec.reset := by
      rw [refit_new hb hf hm]
      obtain ⟨-, -, -, -, -, -, hss, -⟩ := commit_onlyAcSv k ⟨({ s.ac.get k with persist := 0 } : Channel).toUnhomed.toHoming, []⟩
        (putChannel k { s.ac.get k with persist := 0 } (recordReset k s))
      exact hss.trans hss'
    rw [hss, hb, hf, refit_new hb hf hm, commit_get_alone rfl, putChannel_ac]
    split_ifs with hj
    · rw [hj, Quad.get_set_self]; rfl
    · rw [Quad.get_set_ne _ _ hj, Quad.get_set_ne _ _ hj, hac']; rfl

theorem refit_only (before : ConfigTable) (hm : s.ct.mode = .run) (k : Chan) :
    OnlyAcSv (s.setSs (refit before k s).ss) (refit before k s) ∧ KeepsOrders s (refit before k s) := by
  rcases refit_cases before k s with h | ⟨hb, hf⟩ | ⟨hb, hf⟩
  · rw [refit_same h]; exact ⟨⟨rfl, rfl, rfl, rfl, rfl, rfl, rfl, rfl, rfl, rfl⟩, .refl s⟩
  · rw [refit_gone hb hf]
    obtain ⟨-, -, -, -, orders⟩ := inactiveIfFaulted_sv k s
    obtain ⟨h1, h2, h3, h4, h5, h6, -, h8, h9, h10⟩ :=
      (inactiveIfFaulted_onlyAcSv k s).trans (commit_onlyAcSv k ⟨(s.ac.get k).toAbsent, []⟩ _)
    exact ⟨⟨h1, h2, h3, h4, h5, h6, rfl, h8, h9, h10⟩, orders.trans (commit_keepsOrders k _ _)⟩
  · rw [refit_new hb hf hm]
    obtain ⟨r1, r2, r3, r4, r5, r6, -, -, r8, r9, r10⟩ := recordReset_onlySv k s
    obtain ⟨h1, h2, h3, h4, h5, h6, -, h8, h9, h10⟩ := commit_onlyAcSv k
      ⟨({ s.ac.get k with persist := 0 } : Channel).toUnhomed.toHoming, []⟩
      (putChannel k { s.ac.get k with persist := 0 } (recordReset k s))
    have reported : KeepsOrders s (recordReset k s) := reportSource_keeps k (s.setSs _)
    exact ⟨⟨h1.trans r1, h2.trans r2, h3.trans r3, h4.trans r4, h5.trans r5, h6.trans r6, rfl, h8.trans r8, h9.trans r9,
      h10.trans r10⟩, reported.trans (commit_keepsOrders k _ (putChannel k _ (recordReset k s)))⟩

/-- The records that end as a channel is made absent. -/
def ofUnfitted (before : ConfigTable) (s : State) (k : Chan) (f : FaultRecord) : Bool :=
  before.fitted k && !fitted s k && (s.ac.get k).state.isFaulted && f.isOf k

/-- A change of fitting at a channel that does not steer ends the records of a FAULTED channel made absent and no other. -/
theorem refit_ends (hm : s.ct.mode = .run) (hc : Calm True s) (hs : Seen s)
    (hv : before.fitted k ≠ fitted s k → (s.ac.get k).state.steers = false) :
    Ends (ofUnfitted before s k) s (refit before k s) ∧ Calm True (refit before k s) ∧ Seen (refit before k s) := by
  unfold ofUnfitted
  rcases refit_cases before k s with h | ⟨hb, hf⟩ | ⟨hb, hf⟩
  · rw [refit_same h, h]
    exact ⟨(Ends.refl s).congr fun f => by cases fitted s k <;> rfl, hc, hs⟩
  · have unseen : (s.sv.view.get k).state.steers = false := by
      rw [(hs k).1]; exact hv (by rw [hb, hf]; nofun)
    obtain ⟨hview, hopen, hconf, hshort, -⟩ := inactiveIfFaulted_sv k s
    have calm : Calm True (inactiveIfFaulted k s) := by
      unfold Calm Met; rw [hview, hopen, hconf, hshort, inactiveIfFaulted_ct]; exact hc
    have falls : Falls True (inactiveIfFaulted k s) (commit k ⟨(s.ac.get k).toAbsent, []⟩ (inactiveIfFaulted k s)) :=
      commit_falls calm (steersAs_of_not rfl fun _ => by rw [hview]; exact unseen) fun _ => rfl
    have seen : Seen (inactiveIfFaulted k s) := by unfold Seen; rw [hview, inactiveIfFaulted_ac]; exact hs
    rw [refit_gone hb hf, hb, hf]
    exact ⟨((inactiveIfFaulted_ends k s).trans falls.keeps.ends fun _ => rfl).congr fun f => by
      rw [Bool.or_false]; rfl, falls.calm, commit_seen seen k _⟩
  · have unseen : (s.sv.view.get k).state.steers = false := by
      rw [(hs k).1]; exact hv (by rw [hb, hf]; nofun)
    have start : Calm True (s.setSs (s.ss.set k SsRec.reset)) := hc
    have reset : Falls True s (recordReset k s) :=
      (Falls.of_sv (s := s) (t := s.setSs (s.ss.set k SsRec.reset)) start rfl).trans (reportSource_falls start fun _ => unseen)
    have put : Falls True s (putChannel k { s.ac.get k with persist := 0 } (recordReset k s)) :=
      reset.trans (.of_sv reset.calm rfl)
    have view (j : Chan) : ((recordReset k s).sv.view.get j).state = (s.sv.view.get j).state ∧
        ((recordReset k s).sv.view.get j).mark = (s.sv.view.get j).mark := reportSource_view k j (s.setSs _)
    have falls := put.trans (commit_homing_falls (k := k)
      (ch := ({ s.ac.get k with persist := 0 } : Channel).toUnhomed.toHoming) rfl put.calm ((congrArg _ (view k).1).trans unseen))
    have seen : Seen (putChannel k { s.ac.get k with persist := 0 } (recordReset k s)) := fun j => by
      obtain ⟨hstate, hmark⟩ := view j
      obtain ⟨-, -, -, -, -, -, -, hac, -⟩ := recordReset_onlySv k s
      show ((recordReset k s).sv.view.get j).state = _ ∧ ((recordReset k s).sv.view.get j).mark = _
      rw [hstate, hmark, (hs j).1, (hs j).2, putChannel_ac, hac]
      by_cases hj : j = k
      · rw [hj, Quad.get_set_self]; exact ⟨rfl, rfl⟩
      · rw [Quad.get_set_ne _ _ hj]; exact ⟨rfl, rfl⟩
    rw [refit_new hb hf hm]
    exact ⟨falls.keeps.ends.congr fun f => by rw [hb]; rfl, falls.calm, commit_seen seen k _⟩

end Refit

/-! ### The storing of a value (R123, R185) -/

/-- The table with one value stored. -/
def stored (p : ParamRef) (v : Int) (s : State) : State := s.setCt { s.ct with table := p.set s.ct.table v }

theorem storeConfig_eq (p : ParamRef) (v : Int) (s : State) :
    storeConfig p v s = eachChannel (refit s.ct.table) (stored p v s) := rfl

theorem storeConfig_get (p : ParamRef) (v : Int) (hm : s.ct.mode = .run) :
    (OnlyAcSv ((stored p v s).setSs (storeConfig p v s).ss) (storeConfig p v s) ∧ KeepsOrders s (storeConfig p v s)) ∧
      ∀ k, ((storeConfig p v s).ac.get k, (storeConfig p v s).ss.get k) =
        refitted (s.ct.table.fitted k) ((p.set s.ct.table v).fitted k) (s.ac.get k, s.ss.get k) := by
  rw [storeConfig_eq]
  refine eachChannel_get (get := fun t k => (t.ac.get k, t.ss.get k))
    (g := fun k => refitted (s.ct.table.fitted k) ((p.set s.ct.table v).fitted k))
    (P := fun t => OnlyAcSv ((stored p v s).setSs t.ss) t ∧ KeepsOrders s t) ?_ ⟨.refl _, .refl s⟩
  rintro k t ⟨⟨h1, h2, h3, h4, h5, h6, -, h8, h9, h10⟩, ho⟩
  have hm : t.ct.mode = .run := (congrArg Ct.mode h8).trans hm
  have hf : fitted t k = (p.set s.ct.table v).fitted k := congrArg (fun c : Ct => c.table.fitted k) h8
  obtain ⟨⟨r1, r2, r3, r4, r5, r6, -, r8, r9, r10⟩, hr⟩ := refit_only s.ct.table hm k
  refine ⟨⟨⟨r1.trans h1, r2.trans h2, r3.trans h3, r4.trans h4, r5.trans h5, r6.trans h6, rfl, r8.trans h8, r9.trans h9,
    r10.trans h10⟩, ho.trans hr⟩, fun j => ?_⟩
  rw [refit_get s.ct.table hm, hf]

/-- A change of fitting whose channels do not steer ends the records of the FAULTED ones made absent, and no other. -/
theorem storeConfig_ends {p : ParamRef} {v : Int} (hm : s.ct.mode = .run) (hc : Calm True (stored p v s)) (hs : Seen s)
    (hv : ∀ k, s.ct.table.fitted k ≠ (p.set s.ct.table v).fitted k → (s.ac.get k).state.steers = false) :
    Ends (fun f => Chan.all.any fun k => ofUnfitted s.ct.table (stored p v s) k f) s (storeConfig p v s) := by
  rw [storeConfig_eq]
  refine eachChannel_ends (s := stored p v s) (P := fun t => t.ct = (stored p v s).ct ∧ Calm True t ∧ Seen t) (fun _ _ => rfl)
    (fun k t hac ⟨hct, ht⟩ => ?_) ⟨rfl, hc, hs⟩
  have hm : t.ct.mode = .run := (congrArg Ct.mode hct).trans hm
  have hf : fitted t k = fitted (stored p v s) k := by unfold fitted; rw [hct]
  have hac : t.ac.get k = s.ac.get k := hac
  obtain ⟨ended, after⟩ := refit_ends (k := k) (before := s.ct.table) hm ht.1 ht.2 (by rw [hf, hac]; exact hv k)
  refine ⟨?_, ⟨(refit_ct _ k t).trans hct, after⟩, fun j hj => ?_⟩
  · unfold ofUnfitted at ended ⊢
    rwa [hf, hac] at ended
  · have got := refit_get s.ct.table (k := k) (j := j) hm
    rw [if_neg hj] at got
    exact congrArg Prod.fst got

/-- A change of the table that alters the fittedness only of channels not seen steering leaves the condition as it was (R140). -/
theorem stored_calm {p : ParamRef} {v : Int} {kept : Prop} (hc : Calm kept s)
    (hv : ∀ k, s.ct.table.fitted k ≠ (p.set s.ct.table v).fitted k → (s.sv.view.get k).state.steers = false) :
    Calm kept (stored p v s) := by
  have same (k : Chan) (hk : (s.sv.view.get k).counts = true) : fitted (stored p v s) k = fitted s k := by
    by_contra hne
    exact absurd ((Bool.and_eq_true_iff.1 hk).1.symm.trans (hv k fun h => hne h.symm)) nofun
  have hmet : Met (stored p v s) ↔ Met s := by
    rw [met_iff, met_iff]
    refine and_congr .rfl (and_congr .rfl (exists_congr fun k => ?_))
    exact ⟨fun ⟨hf, hk⟩ => ⟨(same k hk).symm.trans hf, hk⟩, fun ⟨hf, hk⟩ => ⟨(same k hk).trans hf, hk⟩⟩
  exact ⟨fun hm => hc.1 (hmet.1 hm), fun hk hs => hmet.2 (hc.2 hk hs)⟩

/-- The reply items of SET_CONFIG, parameter and channel number. -/
theorem configItems_eq {param channel : Nat} {p : ParamRef} (h : paramRef param channel = some p) (s : State) :
    configItems param channel s = beBytes 1 param ++ beBytes 1 channel ++ beSigned 4 (p.get s.ct.table) := by
  unfold configItems; rw [h]

theorem configItems_none {param channel : Nat} (h : paramRef param channel = none) (s : State) :
    configItems param channel s = beBytes 1 param ++ beBytes 1 channel := by
  unfold configItems; rw [h]; exact List.append_nil _

/-- SET_CONFIG from the holder at standstill, by the checks that remain (R183). -/
theorem takeSetConfig_holder {m : Master} {param channel : Nat} {v : Int} (hh : holds s m = true) (hs : atStandstill s = true) :
    (paramRef param channel = none →
      takeSetConfig m param channel v s = ⟨s, .badValue, beBytes 1 param ++ beBytes 1 channel⟩) ∧
    ∀ p, paramRef param channel = some p →
      let items (x : Int) := beBytes 1 param ++ beBytes 1 channel ++ beSigned 4 x
      (p.admits v = false → takeSetConfig m param channel v s = ⟨s, .badValue, items (p.get s.ct.table)⟩) ∧
      (p.admits v = true → changeAllowed s p v = false →
        takeSetConfig m param channel v s = ⟨s, .wrongState, items (p.get s.ct.table)⟩) ∧
      (p.admits v = true → changeAllowed s p v = true →
        takeSetConfig m param channel v s = ⟨storeConfig p v s, .ok, items v⟩) := by
  unfold takeSetConfig
  rw [hh, hs]
  refine ⟨fun h => ?_, fun p h => ?_⟩
  · simp [h, configItems_none h]
  · refine ⟨fun ha => ?_, fun ha hc => ?_, fun ha hc => ?_⟩
    · simp [h, ha, configItems_eq h]
    · simp [h, ha, hc, configItems_eq h]
    · have held : p.get (storeConfig p v s).ct.table = v := by
        rw [storeConfig_ct]
        exact (ParamRef.get_set s.ct.table ha p).trans (if_pos rfl)
      simp [h, ha, hc, configItems_eq h, held]

theorem mayBecomeAbsent_iff (st : ChanState) :
    st.mayBecomeAbsent = true ↔ st = .locked ∨ st = .absent ∨ st = .faulted .lockEngaged := by
  cases st <;> simp [ChanState.mayBecomeAbsent]
  case faulted p => cases p <;> simp

theorem fittingAllows_iff (s : State) (after : ConfigTable) : fittingAllows s after = true ↔
    ∀ k, s.ct.table.fitted k = true → after.fitted k = false →
      (s.ac.get k).state = .locked ∨ (s.ac.get k).state = .absent ∨ (s.ac.get k).state = .faulted .lockEngaged := by
  simp only [fittingAllows, List.all_eq_true, Chan.mem_all, true_imp_iff, Bool.or_eq_true, Bool.not_eq_true',
    Bool.and_eq_false_iff, Bool.not_eq_false', mayBecomeAbsent_iff]
  refine forall_congr' fun k => ?_
  cases s.ct.table.fitted k <;> cases after.fitted k <;> simp

theorem toAbsent_eq (ch : Channel) : ch.toAbsent = { ch with
    state := .absent, theta := 0, mark := false, untrusted := false, drive := .off, solenoid := false, conv := .none,
    homingT := none, lockT := none, settle := none, centringT := none } := rfl

theorem unhomed_homing_eq (ch : Channel) : ch.toUnhomed.toHoming = { ch with
    state := .homing .assessing, theta := 0, mark := false, untrusted := false, drive := .off, solenoid := false,
    homingT := some 0, lockT := none, settle := none, centringT := none,
    conv := if ch.conv = .none then .inFlight false else .inFlight true } := by
  rw [toHoming_eq]; rfl

/-- Settles O25. -/
theorem fittingChangeMakesAbsentOrHomes : Obligations.FittingChangeMakesAbsentOrHomes := by
  intro h param channel v p s hr hd hh hst href hp ha after hallow
  have holder : holds (received h s) h.src = true := (holds_received_eq h s).trans hh
  have stands : atStandstill (received h s) = true := by simp [atStandstill, hst]
  have allowed : changeAllowed (received h s) p v = true := by
    have allows : fittingAllows (received h s) after = true := (fittingAllows_iff _ _).2 hallow
    rcases hp with rfl | ⟨k, rfl⟩ <;> exact allows
  obtain ⟨-, -, accepted⟩ := (takeSetConfig_holder holder stands).2 p href
  obtain ⟨⟨only, orders⟩, got⟩ := storeConfig_get (s := received h s) p v hr.2
  have ends := storeConfig_ends (s := received h s) (p := p) (v := v) hr.2
  refine ⟨storeConfig p v (received h s), exec_answer rfl hr hd (accepted ha allowed), storeConfig_ct p v _, orders, ?_⟩
  generalize storeConfig p v (received h s) = t at *
  obtain ⟨-, hli, haa, hrw, hodo, hpfu, -, -, hpath, hpending⟩ := only
  refine ⟨fun hv ht => ?_, fun k hk => ?_, fun k hb hf => ?_, fun k hb hf => ?_, hrw, hodo, hpfu, hpath, hli, haa, hpending⟩
  · obtain ⟨seen, -, -, derived⟩ := (ViewInv_iff s).1 hv
    obtain ⟨-, habsent, -⟩ := ht
    have quiet (k : Chan) (hne : s.ct.table.fitted k ≠ after.fitted k) : (s.ac.get k).state.steers = false := by
      cases hb : s.ct.table.fitted k
      · rw [(habsent k).2 hb]; rfl
      · rcases hallow k hb (by rw [hb] at hne; cases hf : after.fitted k <;> simp_all) with hk | hk | hk <;> rw [hk] <;> rfl
    have calm : Calm True (stored p v (received h s)) := stored_calm (s := received h s) derived.calm fun k hne =>
      (congrArg ChanState.steers (seen k).1).trans (quiet k hne)
    exact ends calm seen quiet
  · have same : (t.ac.get k, t.ss.get k) = (s.ac.get k, s.ss.get k) := by
      rw [got, received_ct, show (p.set s.ct.table v).fitted k = s.ct.table.fitted k from hk.symm, refitted_same]; rfl
    exact Prod.ext_iff.1 same
  · have gone : (t.ac.get k, t.ss.get k) = ((s.ac.get k).toAbsent, s.ss.get k) := by
      rw [got, received_ct, show (p.set s.ct.table v).fitted k = false from hf, hb]; rfl
    exact (Prod.ext_iff.1 gone).symm.imp id fun hac => hac.trans (toAbsent_eq _)
  · have entered : (t.ac.get k, t.ss.get k) =
        (({ s.ac.get k with persist := 0 } : Channel).toUnhomed.toHoming, SsRec.reset) := by
      rw [got, received_ct, show (p.set s.ct.table v).fitted k = true from hf, hb]; rfl
    exact (Prod.ext_iff.1 entered).symm.imp id fun hac => hac.trans (unhomed_homing_eq _)

end Sys2Proof.Machine

/-! # SET_CONFIG: the table of the parameters -/

namespace Sys2Proof.Machine

variable {s t u : State} {k : Chan}

/-! ### The parameters and their codes (R182, section 12.6) -/

theorem partParamOf_isSome {n : Nat} : (partParamOf n).isSome = true ↔ 1 ≤ n ∧ n ≤ 24 := by
  by_cases h : n ≤ 24
  · interval_cases n <;> decide
  · obtain ⟨m, rfl⟩ := Nat.exists_eq_add_of_lt (Nat.lt_of_not_le h)
    rw [show 24 + m + 1 = m + 25 by omega]
    exact ⟨nofun, fun ⟨_, hm⟩ => by omega⟩

theorem chanParamOf_isSome {n : Nat} : (chanParamOf n).isSome = true ↔ 32 ≤ n ∧ n ≤ 42 := by
  by_cases h : n ≤ 42
  · interval_cases n <;> decide
  · obtain ⟨m, rfl⟩ := Nat.exists_eq_add_of_lt (Nat.lt_of_not_le h)
    rw [show 42 + m + 1 = m + 43 by omega]
    exact ⟨nofun, fun ⟨_, hm⟩ => by omega⟩

/-- What names no parameter (R183 check 3). -/
theorem paramRef_eq_none {code n : Nat} (hp : ¬((1 ≤ code ∧ code ≤ 24) ∧ n = 0))
    (hc : ¬((32 ≤ code ∧ code ≤ 42) ∧ 1 ≤ n ∧ n ≤ 4)) : paramRef code n = none := by
  rw [← partParamOf_isSome] at hp
  rw [← chanParamOf_isSome, ← chanOf_isSome] at hc
  unfold paramRef
  cases hpart : partParamOf code with
  | some p => exact if_neg fun hn => hp ⟨by rw [hpart]; rfl, hn⟩
  | none =>
    cases hchan : chanParamOf code with
    | none => rfl
    | some q =>
      cases hk : chanOf n with
      | none => rfl
      | some k => exact absurd ⟨by rw [hchan]; rfl, by rw [hk]; rfl⟩ hc

theorem paramRef_chan {code n : Nat} {q : ChanParam} (hq : chanParamOf code = some q) (hk : chanOf n = some k) :
    paramRef code n = some (.chan q k) := by
  have hcode := chanParamOf_isSome.1 (Option.isSome_of_eq_some hq)
  have hpart : partParamOf code = none := by
    rw [← Option.not_isSome_iff_eq_none, partParamOf_isSome]; omega
  unfold paramRef
  rw [hpart, hq, hk]

/-! ### The changes that the channel states allow (R184) -/

theorem lockedOrFaulted_iff (st : ChanState) :
    st.lockedOrFaulted = true ↔ st = .locked ∨ ∃ phase, st = .faulted phase := by
  cases st <;> simp [ChanState.lockedOrFaulted]

theorem lockedOrAbsent_iff (st : ChanState) : st.lockedOrAbsent = true ↔ st = .locked ∨ st = .absent := by
  cases st <;> simp [ChanState.lockedOrAbsent]

/-- The channel states allow the change of a value, by its class (R184). -/
structure Allows (s : State) (p : ParamRef) (v : Int) : Prop where
  fitting : (p = .part .fitting ∨ ∃ k, p = .chan .enable k) → ∀ k, s.ct.table.fitted k = true →
    (p.set s.ct.table v).fitted k = false →
    (s.ac.get k).state = .locked ∨ (s.ac.get k).state = .absent ∨ (s.ac.get k).state = .faulted .lockEngaged
  part : ∀ q, p = .part q → q ≠ .fitting → ∀ k, s.ct.table.fitted k = true →
    (s.ac.get k).state = .locked ∨ ∃ phase, (s.ac.get k).state = .faulted phase
  chan : ∀ q k, p = .chan q k → q ≠ .enable → (s.ac.get k).state = .locked ∨ (s.ac.get k).state = .absent

theorem changeAllowed_part (s : State) {q : PartParam} (hq : q ≠ .fitting) (v : Int) :
    changeAllowed s (.part q) v = Chan.all.all fun k => !fitted s k || (s.ac.get k).state.lockedOrFaulted := by
  cases q
  case fitting => exact absurd rfl hq
  all_goals rfl

theorem changeAllowed_chan (s : State) {q : ChanParam} (hq : q ≠ .enable) (k : Chan) (v : Int) :
    changeAllowed s (.chan q k) v = (s.ac.get k).state.lockedOrAbsent := by
  cases q
  case enable => exact absurd rfl hq
  all_goals rfl

theorem changeAllowed_iff (s : State) (p : ParamRef) (v : Int) : changeAllowed s p v = true ↔ Allows s p v := by
  cases p with
  | part q =>
    by_cases hq : q = .fitting
    · subst hq
      refine Iff.trans (fittingAllows_iff s _) ⟨fun h => ⟨fun _ => h, ?_, nofun⟩, fun h => h.fitting (.inl rfl)⟩
      rintro q ⟨⟩ hne; exact absurd rfl hne
    · rw [changeAllowed_part s hq]
      have all : (Chan.all.all fun k => !fitted s k || (s.ac.get k).state.lockedOrFaulted) = true ↔
          ∀ k, s.ct.table.fitted k = true → (s.ac.get k).state = .locked ∨ ∃ phase, (s.ac.get k).state = .faulted phase := by
        simp only [List.all_eq_true, Chan.mem_all, true_imp_iff, Bool.or_eq_true, Bool.not_eq_true', lockedOrFaulted_iff, fitted]
        exact forall_congr' fun k => by cases s.ct.table.fitted k <;> simp
      refine all.trans ⟨fun h => ⟨?_, ?_, nofun⟩, fun h => h.part q rfl hq⟩
      · rintro (⟨⟨⟩⟩ | ⟨k, ⟨⟩⟩); exact absurd rfl hq
      · rintro q ⟨⟩ -; exact h
  | chan q k =>
    by_cases hq : q = .enable
    · subst hq
      refine Iff.trans (fittingAllows_iff s _) ⟨fun h => ⟨fun _ => h, nofun, ?_⟩, fun h => h.fitting (.inr ⟨k, rfl⟩)⟩
      rintro q k ⟨⟩ hne; exact absurd rfl hne
    · rw [changeAllowed_chan s hq, lockedOrAbsent_iff]
      refine ⟨fun h => ⟨?_, nofun, ?_⟩, fun h => h.chan q k rfl hq⟩
      · rintro (⟨⟨⟩⟩ | ⟨k, ⟨⟩⟩); exact absurd rfl hq
      · rintro q k ⟨⟩ -; exact h

/-- A value that changes no channel's fittedness is stored, and refits none. -/
theorem storeConfig_same {p : ParamRef} {v : Int}
    (h : ∀ k, (p.set s.ct.table v).fitted k = s.ct.table.fitted k) : storeConfig p v s = stored p v s := by
  have same (k : Chan) : refit s.ct.table k (stored p v s) = stored p v s := refit_same (h k).symm
  rw [storeConfig_eq]
  unfold eachChannel
  simp only [same]

/-- Settles O24. -/
theorem setConfigStoresOneValue : Obligations.SetConfigStoresOneValue := by
  refine ⟨?_, ?_⟩
  · intro parts chans
    have partRow : ∀ row ∈ parts, paramRef row.1 0 = some (.part row.2.1) ∧ (ParamRef.part row.2.1).range = row.2.2.2 ∧
        ∀ t, (ParamRef.part row.2.1).get t = row.2.2.1 t := by
      simp [parts, paramRef, partParamOf, ParamRef.range, PartParam.range, ParamRef.get, PartParam.get]
      exact ⟨fun t => by cases t.horizonCond <;> rfl, fun t => by cases t.fitting <;> rfl⟩
    have chanRow : ∀ row ∈ chans, chanParamOf row.1 = some row.2.1 ∧ row.2.1.range = row.2.2.2 ∧
        ∀ c, row.2.1.get c = row.2.2.1 c := by
      simp [chans, chanParamOf, ChanParam.range, ChanParam.get]
    refine ⟨fun code p value low high hrow => partRow _ hrow, fun code p value low high hrow n k hk => ?_,
      fun code n hp hc => paramRef_eq_none ?_ ?_, fun p v => ParamRef.admits_iff, fitted_eq⟩
    · obtain ⟨hof, hrange, hget⟩ := chanRow _ hrow
      refine ⟨paramRef_chan hof ?_, hrange, fun t => hget (t.chan.get k)⟩
      simp only [List.mem_cons, Prod.mk.injEq, List.not_mem_nil, or_false] at hk
      obtain ⟨rfl, rfl⟩ | ⟨rfl, rfl⟩ | ⟨rfl, rfl⟩ | ⟨rfl, rfl⟩ := hk <;> rfl
    · rintro ⟨hcode, rfl⟩
      obtain h | h := hp
      · exact h rfl
      · simp [parts] at h; omega
    · rintro ⟨hcode, hn⟩
      obtain h | h := hc
      · omega
      · simp [chans] at h; omega
  · intro h param channel v s hr hd hh hst c req allowed
    have holder : holds (received h s) h.src = true := (holds_received_eq h s).trans hh
    have stands : atStandstill (received h s) = true := by simp [atStandstill, hst]
    have hallowed (p : ParamRef) : changeAllowed (received h s) p v = true ↔ allowed p :=
      (changeAllowed_iff _ p v).trans ⟨fun ⟨h1, h2, h3⟩ => ⟨h1, h2, h3⟩, fun ⟨h1, h2, h3⟩ => ⟨h1, h2, h3⟩⟩
    obtain ⟨unnamed, named⟩ := takeSetConfig_holder (param := param) (channel := channel) (v := v) holder stands
    refine ⟨fun hn => exec_answer rfl hr hd (unnamed hn), fun p hp hv => exec_answer rfl hr hd ((named p hp).1 ?_),
      fun p hp ha hn => exec_answer rfl hr hd ((named p hp).2.1 ha (Bool.eq_false_iff.2 fun hc => hn ((hallowed p).1 hc))),
      fun p hp ha hal hf => ⟨exec_answer rfl hr hd (((named p hp).2.2 ha ((hallowed p).2 hal)).trans ?_), ?_, fun p' hne => ?_⟩⟩
    · exact Bool.eq_false_iff.2 fun ha => by have := ParamRef.admits_iff.1 ha; omega
    · rw [storeConfig_same (s := received h s) hf]; rfl
    · exact (ParamRef.get_set s.ct.table ha p).trans (if_pos rfl)
    · exact (ParamRef.get_set s.ct.table ha p').trans (if_neg hne)

end Sys2Proof.Machine

/-! # CLEAR_FAULTS -/

namespace Sys2Proof.Machine

variable {s t u : State} {k : Chan}

/-! ### A channel rehomed (R120, R204) -/

/-- A fitted channel FAULTED with its lock engaged, which CLEAR_FAULTS rehomes. -/
def clearable (s : State) (k : Chan) : Bool := fitted s k && (s.ac.get k).state == .faulted .lockEngaged

theorem clearable_state (h : clearable s k = true) : (s.ac.get k).state = .faulted .lockEngaged := by
  unfold clearable at h
  exact eq_of_beq (Bool.and_eq_true_iff.1 h).2

theorem clearChannel_of (hm : s.ct.mode = .run) (h : clearable s k = true) : clearChannel k s =
    commit k ⟨(s.ac.get k).toUnhomed.toHoming, []⟩ (reportChannelInactive k s) := by
  obtain ⟨-, -, -, -, -, -, -, hac, hct, -⟩ := reportChannelInactive_onlySv k s
  have hf : fitted s k = true := (Bool.and_eq_true_iff.1 h).1
  unfold clearChannel rehome
  dsimp only
  rw [if_pos ⟨hf, clearable_state h⟩, hac, hct, if_pos hm]

theorem clearChannel_not (h : clearable s k = false) : clearChannel k s = s := by
  unfold clearChannel
  refine if_neg fun ⟨hf, hst⟩ => ?_
  rw [clearable, hf, hst] at h
  exact absurd h nofun

theorem clearChannel_get (hm : s.ct.mode = .run) (k j : Chan) : (clearChannel k s).ac.get j =
    if j = k then (if clearable s k then (s.ac.get k).toUnhomed.toHoming else s.ac.get k) else s.ac.get j := by
  cases hc : clearable s k
  · rw [clearChannel_not hc]
    simp only [Bool.false_eq_true, if_false]
    split_ifs with hj
    exacts [by rw [hj], rfl]
  · obtain ⟨-, -, -, -, -, -, -, hac, -⟩ := reportChannelInactive_onlySv k s
    rw [clearChannel_of hm hc, commit_get_alone rfl, hac, if_pos rfl]

theorem clearChannel_only (hm : s.ct.mode = .run) (k : Chan) :
    OnlyAcSv s (clearChannel k s) ∧ KeepsOrders s (clearChannel k s) := by
  cases hc : clearable s k
  · rw [clearChannel_not hc]; exact ⟨.refl s, .refl s⟩
  · rw [clearChannel_of hm hc]
    obtain ⟨-, -, -, -, orders⟩ := foldl_inactive_sv k channelCodes s
    obtain ⟨h1, h2, h3, h4, h5, h6, h7, -, h9, h10, h11⟩ := reportChannelInactive_onlySv k s
    have told : OnlyAcSv s (reportChannelInactive k s) := ⟨h1, h2, h3, h4, h5, h6, h7, h9, h10, h11⟩
    exact ⟨told.trans (commit_onlyAcSv k _ _), orders.trans (commit_keepsOrders k _ _)⟩

/-- The rehoming of a channel ends its records, and no other. -/
theorem clearChannel_ends (hm : s.ct.mode = .run) (hc : Calm True s) (hs : Seen s) (k : Chan) :
    Ends (fun f => clearable s k && f.isOf k) s (clearChannel k s) ∧ Calm True (clearChannel k s) ∧ Seen (clearChannel k s) := by
  cases hk : clearable s k
  · rw [clearChannel_not hk]; exact ⟨Ends.refl s, hc, hs⟩
  · obtain ⟨hview, hopen, hconf, hshort, -⟩ := foldl_inactive_sv k channelCodes s
    obtain ⟨-, -, -, -, -, -, -, hac, hct, -⟩ := reportChannelInactive_onlySv k s
    have calm : Calm True (reportChannelInactive k s) := by
      unfold Calm Met reportChannelInactive
      rw [hview, hopen, hconf, hshort, show (channelCodes.foldl _ s).ct = s.ct from hct]; exact hc
    have unseen : ((reportChannelInactive k s).sv.view.get k).state.steers = false := by
      rw [reportChannelInactive, hview, (hs k).1, clearable_state hk]; rfl
    have seen : Seen (reportChannelInactive k s) := by
      unfold Seen reportChannelInactive
      rw [hview, show (channelCodes.foldl _ s).ac = s.ac from hac]; exact hs
    have falls := commit_homing_falls (k := k) (ch := (s.ac.get k).toUnhomed.toHoming) rfl calm unseen
    rw [clearChannel_of hm hk]
    exact ⟨((foldl_inactive_ends k channelCodes s).trans falls.keeps.ends fun _ => rfl).congr fun f => Bool.or_false _,
      falls.calm, commit_seen seen k _⟩

theorem clearAll_get (hm : s.ct.mode = .run) :
    (OnlyAcSv s (eachChannel clearChannel s) ∧ KeepsOrders s (eachChannel clearChannel s)) ∧
      ∀ k, (eachChannel clearChannel s).ac.get k = if clearable s k then (s.ac.get k).toUnhomed.toHoming else s.ac.get k := by
  have clear (t : State) (k : Chan) : clearable t k = (fitted t k && (t.ac.get k).state == .faulted .lockEngaged) := rfl
  refine eachChannel_get (get := fun t k => t.ac.get k) (P := fun t => OnlyAcSv s t ∧ KeepsOrders s t)
    (g := fun k ch => if fitted s k && ch.state == .faulted .lockEngaged then ch.toUnhomed.toHoming else ch) ?_ ⟨.refl s, .refl s⟩
  rintro k t ⟨hac, ho⟩
  have hct : t.ct = s.ct := by
    obtain ⟨-, -, -, -, -, -, -, hct, -⟩ := hac
    exact hct
  have hmt : t.ct.mode = .run := by rw [hct]; exact hm
  obtain ⟨h1, h2⟩ := clearChannel_only hmt k
  refine ⟨⟨hac.trans h1, ho.trans h2⟩, fun j => ?_⟩
  rw [clearChannel_get hmt, clear, fitted, hct]; rfl

theorem clearAll_ends (hm : s.ct.mode = .run) (hc : Calm True s) (hs : Seen s) :
    Ends (fun f => Chan.all.any fun k => clearable s k && f.isOf k) s (eachChannel clearChannel s) := by
  refine eachChannel_ends (s := s) (P := fun t => t.ct = s.ct ∧ Calm True t ∧ Seen t) (fun _ _ => rfl)
    (fun k t hac ⟨hct, ht⟩ => ?_) ⟨rfl, hc, hs⟩
  have hmt : t.ct.mode = .run := by rw [hct]; exact hm
  have same : clearable t k = clearable s k := by unfold clearable fitted; rw [hct, hac]
  obtain ⟨ended, after⟩ := clearChannel_ends hmt ht.1 ht.2 k
  obtain ⟨⟨-, -, -, -, -, -, -, only, -⟩, -⟩ := clearChannel_only hmt k
  rw [same] at ended
  exact ⟨ended, ⟨only.trans hct, after⟩, fun j hj => by rw [clearChannel_get hmt, if_neg hj]⟩

/-! ### The tachos cleared, and the ended records removed (R63, R204) -/

/-- A TACHO_FAILED of either tacho. -/
def ofTachos (f : FaultRecord) : Bool := f.concerns .tachoFailed (.tacho .t1) || f.concerns .tachoFailed (.tacho .t2)

theorem clearTachos_ends (s : State) : Ends ofTachos s (clearTachos s) :=
  Ends.trans (s := s) (reportInactive_ends .tachoFailed (.tacho .t1) (s.setOdo _)) (reportInactive_ends .tachoFailed (.tacho .t2) _)
    fun _ => rfl

theorem filter_active_map_ended (ended : FaultRecord → Bool) (faults : List FaultRecord) :
    (faults.map fun f => if ended f then { f with active := false } else f).filter (·.active) =
      faults.filter fun f => f.active && !ended f := by
  induction faults with
  | nil => rfl
  | cons f faults ih => cases he : ended f <;> cases ha : f.active <;> simp [he, ha, ih]

/-- The removal of what ended. -/
theorem removeInactive_eq {ended : FaultRecord → Bool} (h : Ends ended s t) :
    t.sv.removeInactive.faults = s.sv.faults.filter (fun f => f.active && !ended f) ∧
      t.sv.removeInactive.listFull =
        (s.sv.listFull && (s.sv.faults.filter fun f => f.active && !ended f).length == s.sv.faults.length) ∧
      t.sv.removeInactive.notice = s.sv.notice ∧ t.sv.faults.length = s.sv.faults.length := by
  obtain ⟨hfaults, hfull, hnotice⟩ := h
  have kept : t.sv.faults.filter (·.active) = s.sv.faults.filter fun f => f.active && !ended f := by
    rw [hfaults, filter_active_map_ended]
  have len : t.sv.faults.length = s.sv.faults.length := by rw [hfaults, List.length_map]
  refine ⟨kept, ?_, hnotice, len⟩
  show (if t.sv.faults.any (fun f => !f.active) then false else t.sv.listFull) = _
  rw [← kept, ← len, ← hfull]
  cases hany : t.sv.faults.any (fun f => !f.active)
  · have all : (t.sv.faults.filter (·.active)).length = t.sv.faults.length := by
      rw [List.length_filter_eq_length_iff]; simpa using hany
    simp [all]
  · have fewer : (t.sv.faults.filter (·.active)).length ≠ t.sv.faults.length := by
      rw [Ne, List.length_filter_eq_length_iff]; simpa using hany
    simp [fewer]

/-- What has ended for a CLEAR_FAULTS, by the subject of the record. -/
theorem ended_eq {rehomed : Chan → Bool} {f : FaultRecord} (h : f.code.takes f.subject = true) :
    (!((Chan.all.any fun k => rehomed k && f.isOf k) || ofTachos f)) =
      (f.code != .tachoFailed && match f.subject with | .chan k => !rehomed k | _ => true) := by
  obtain ⟨code, subject⟩ := f
  unfold FaultRecord.isOf ofTachos FaultRecord.concerns
  dsimp only at h ⊢
  cases subject with
  | chan k =>
    have hcode : (code == .tachoFailed) = false := by
      rw [beq_eq_false_iff_ne]; rintro rfl; exact absurd h nofun
    have its : (Chan.all.any fun j => rehomed j && (channelCodes.contains code && Subject.chan k == .chan j)) = rehomed k := by
      have same (j : Chan) : (Subject.chan k == .chan j) = (k == j) := by cases k <;> cases j <;> rfl
      simp only [show channelCodes.contains code = true from h, same, Bool.true_and]
      cases k <;> simp [Chan.all, show ∀ i j : Chan, (i == j) = decide (i = j) from fun _ _ => rfl]
    rw [its, bne, hcode]
    simp
  | tacho n =>
    have hcode : code = .tachoFailed := eq_of_beq h
    subst hcode
    cases n <;> simp
  | none =>
    have hcode : (code == .tachoFailed) = false := by
      simp only [FaultCode.takes, Bool.and_eq_true, bne] at h
      simpa using h.2
    rw [bne, hcode]
    simp

/-- The state in which CLEAR_FAULTS removes what has ended. -/
def conditionsCleared (s : State) : State := clearTachos (eachChannel clearChannel s)

theorem takeClearFaults_holder {m : Master} (hh : holds s m = true) (hs : atStandstill s = true) :
    takeClearFaults m s = ⟨(conditionsCleared s).setSv (conditionsCleared s).sv.removeInactive, .ok,
      beBytes 1 ((conditionsCleared s).sv.faults.length - (conditionsCleared s).sv.removeInactive.faults.length) ++
        beBytes 1 (conditionsCleared s).sv.removeInactive.faults.length⟩ := by
  unfold takeClearFaults
  rw [hh, hs]; rfl

/-- What CLEAR_FAULTS leaves of the other blocks. -/
structure ConditionsCleared (s t : State) : Prop where
  orders : KeepsOrders s t
  tacho : t.odo.tacho = ⟨.working, .working⟩ ∧ t.odo.disagree = 0 ∧ t.odo.agree = 0
  channel : ∀ k, t.ac.get k = if clearable s k then (s.ac.get k).toUnhomed.toHoming else s.ac.get k
  blocks : t.odo.r = s.odo.r ∧ t.rw = s.rw ∧ t.pfu = s.pfu ∧ t.ss = s.ss ∧ t.ct = s.ct ∧ t.path = s.path ∧
    t.li = s.li ∧ t.aa = s.aa ∧ t.pending = s.pending

theorem conditionsCleared_cleared (hm : s.ct.mode = .run) : ConditionsCleared s (conditionsCleared s) := by
  obtain ⟨⟨only, orders⟩, got⟩ := clearAll_get hm
  unfold conditionsCleared
  generalize eachChannel clearChannel s = t at *
  obtain ⟨-, hli, haa, hrw, hodo, hpfu, hss, hct, hpath, hpending⟩ := only
  exact ⟨orders, ⟨rfl, rfl, rfl⟩, got, (congrArg Odo.r hodo :), hrw, hpfu, hss, hct, hpath, hli, haa, hpending⟩

/-- Settles O27. -/
theorem clearFaultsRemovesWhatHasEnded : Obligations.ClearFaultsRemovesWhatHasEnded := by
  intro h s hinv hr hd hh hst rehomed stays
  obtain ⟨-, ⟨-, -, htakes, -⟩, -, -, -, -, -, hview, -⟩ := hinv
  obtain ⟨seen, -, -, derived⟩ := (ViewInv_iff s).1 hview
  have holder : holds (received h s) h.src = true := (holds_received_eq h s).trans hh
  have stands : atStandstill (received h s) = true := by simp [atStandstill, hst]
  have calm : Calm True (received h s) := derived.calm
  have cleared := conditionsCleared_cleared (s := received h s) hr.2
  have ended : Ends (fun f => (Chan.all.any fun k => clearable s k && f.isOf k) || ofTachos f) s
      (conditionsCleared (received h s)) :=
    (clearAll_ends (s := received h s) hr.2 calm seen).trans (clearTachos_ends _) fun _ => rfl
  have taken := takeClearFaults_holder holder stands
  generalize conditionsCleared (received h s) = t at *
  have remaining : (s.sv.faults.filter fun f => f.active &&
      !((Chan.all.any fun k => clearable s k && f.isOf k) || ofTachos f)) = s.sv.faults.filter stays :=
    List.filter_congr fun f hf => by
      have stays_eq : stays f = (f.active && (f.code != .tachoFailed &&
          match f.subject with | .chan k => !clearable s k | _ => true)) := Bool.and_assoc ..
      rw [stays_eq, ended_eq (htakes f hf)]
  obtain ⟨hfaults, hfull, hnotice, hlen⟩ := removeInactive_eq ended
  rw [remaining] at hfaults hfull
  rw [hfaults, hlen] at taken
  obtain ⟨orders, ⟨htacho, hdisagree, hagree⟩, channel, hr', hrw, hpfu, hss, hct, hpath, hli, haa, hpending⟩ := cleared
  refine ⟨t.setSv t.sv.removeInactive, exec_answer rfl hr hd taken, hfaults, hfull, hnotice, orders, htacho, hdisagree, hagree,
    fun k hk => ?_, fun k hk => ?_, hr', hrw, hpfu, hss, hct, hpath, hli, haa, hpending⟩
  · exact (channel k).trans (if_neg (by rw [show clearable (received h s) k = false from hk]; exact nofun))
  · have homed : t.ac.get k = (s.ac.get k).toUnhomed.toHoming := (channel k).trans (if_pos hk)
    show (t.ac.get k).state = _ ∧ (t.ac.get k).mark = _ ∧ (t.ac.get k).untrusted = _ ∧ (t.ac.get k).theta = _ ∧
      (t.ac.get k).homingT = _
    rw [homed]
    exact ⟨rfl, rfl, rfl, rfl, rfl⟩

end Sys2Proof.Machine

/-! # The end of a service (R171, R173) -/

namespace Sys2Proof.Machine

variable {s t u : State} {f : QFrame} {rest : List QFrame}

/-- The head of the queue is dispatched once the interface is free, then the rest is served (R171). -/
theorem serve_front (hs : t.li.service = none) (hq : t.li.queue = f :: rest) :
    serve t = serveUpTo rest.length (dispatch f (t.setLi { t.li with queue := rest })) := by
  have all : serve t = serveUpTo (rest.length + 1) t := by rw [serve, hq]; rfl
  rw [all, serveUpTo, hs, hq]

theorem serveUpTo_empty (hq : t.li.queue = []) (n : Nat) : serveUpTo n t = t := by
  cases n with
  | zero => rfl
  | succ n => unfold serveUpTo; rw [hq]; cases t.li.service <;> rfl

/-- An addressed frame within its 2 ms stays in service with its outcome (R171, R173). -/
theorem dispatch_addressed (hd : f.hdr.dest = .addressed) (ha : f.age < 500) :
    let out := judge f.hdr.src f.req u
    dispatch f u = out.state.setLi { out.state.li with
      service := some { hdr := f.hdr, req := f.req, age := f.age, result := out.result, items := out.items, reply := none } } := by
  unfold dispatch
  rw [hd]
  exact if_neg (show ¬Config.replyDeadline ≤ f.age by unfold Config.replyDeadline; omega)

/-- A broadcast that brings no mode change, or an addressed frame whose 2 ms have passed, is dispatched with its effect and its
service ends there (R169, R173). -/
theorem dispatch_ends (hs : u.li.service = none)
    (hf : f.hdr.dest = .addressed ∧ 500 ≤ f.age ∨
      f.hdr.dest = .broadcast ∧ (judge f.hdr.src f.req u).state.ct.pendingMode = .none) :
    dispatch f u = endService (judge f.hdr.src f.req u).state := by
  have line : (judge f.hdr.src f.req u).state.li = u.li := (judge_line (LineAt.start u) f.hdr.src f.req).li
  unfold dispatch
  generalize judge f.hdr.src f.req u = out at *
  obtain ⟨hd, ha⟩ | ⟨hd, hp⟩ := hf
  · rw [hd]
    exact (if_pos (show Config.replyDeadline ≤ f.age from ha)).trans rfl
  · rw [hd]
    exact (endService_idle hp (line ▸ hs)).symm

/-- The end of a service leaves the queue, or by a SLEEP empties it: what bounds the dispatches still serves it whole. -/
theorem serve_of_ended (hq : t.li.queue = rest) : serveUpTo rest.length (endService t) = serve (endService t) := by
  obtain h | h := endService_line (LineAt.start t)
  · have queue : (endService t).li.queue = rest := by rw [h.li]; exact hq
    rw [serve, queue]
  · have queue : (endService t).li.queue = [] := by rw [h.li]; rfl
    rw [serveUpTo_empty queue, serve_of_empty queue]

/-- A frame dispatched and ended at once: the queue is served on as from the end of its service. -/
theorem serve_ended (hs : t.li.service = none) (hq : t.li.queue = f :: rest)
    (hf : f.hdr.dest = .addressed ∧ 500 ≤ f.age ∨ f.hdr.dest = .broadcast ∧
      (judge f.hdr.src f.req (t.setLi { t.li with queue := rest })).state.ct.pendingMode = .none) :
    serve t = serve (endService (judge f.hdr.src f.req (t.setLi { t.li with queue := rest })).state) := by
  have line := (judge_line (LineAt.start (t.setLi { t.li with queue := rest })) f.hdr.src f.req).li
  rw [serve_front hs hq, dispatch_ends (by exact hs) hf]
  generalize (judge f.hdr.src f.req (t.setLi { t.li with queue := rest })).state = u at *
  exact serve_of_ended (by rw [line]; rfl)

/-- The dispatch of an addressed frame within its 2 ms begins its service, and the serving of the queue stops there. -/
theorem serve_begins (hs : t.li.service = none) (hq : t.li.queue = f :: rest) (hd : f.hdr.dest = .addressed) (ha : f.age < 500) :
    let out := judge f.hdr.src f.req (t.setLi { t.li with queue := rest })
    serve t = out.state.setLi { out.state.li with
      service := some { hdr := f.hdr, req := f.req, age := f.age, result := out.result, items := out.items, reply := none } } := by
  intro out
  rw [serve_front hs hq, dispatch_addressed hd ha]
  exact serveUpTo_busy rfl _

theorem judge_power (m : Master) (req : Request) (hon : t.power = .on) : (judge m req t).state.power = .on :=
  (judge_line (LineAt.start t) m req).power.trans hon

/-- Settles O30. -/
theorem endOfServiceDispatchesTheNextFrame : Obligations.EndOfServiceDispatchesTheNextFrame := by
  intro s v hon hv hp sent dropped
  have sends (hr : v.reply ≠ none) : endOfService s = serve sent :=
    (endOfService_replied hv hr).trans (congrArg serve (endService_plain hp))
  have drops (hr : v.reply = none) (ha : 500 ≤ v.age) : replyDrop s = serve dropped :=
    (replyDrop_late hv hr ha).trans (congrArg serve (endService_plain hp))
  refine ⟨fun hr hq => exec_event_eq hon ((sends hr).trans (serve_of_empty hq)) rfl,
    fun hr ha hq => exec_event_eq hon ((drops hr ha).trans (serve_of_empty hq)) rfl,
    fun hr => exec_event_eq hon ?_ rfl, fun hr => exec_event_eq hon ?_ rfl,
    fun f rest hq hd ha => ⟨fun hr => exec_event_eq hon ((sends hr).trans (serve_begins rfl hq hd ha)) rfl,
      fun hr hlate => exec_event_eq hon ((drops hr hlate).trans (serve_begins rfl hq hd ha)) rfl⟩,
    ?_⟩
  · unfold endOfService; rw [hv]; dsimp only; rw [hr]
  · unfold replyDrop; rw [hv]
    refine if_neg fun ⟨hnone, hage⟩ => ?_
    obtain hr | ha := hr
    · exact hr (Option.isNone_iff_eq_none.1 hnone)
    · exact absurd (show 500 ≤ v.age from hage) (by omega)
  intro f rest hq again
  constructor
  · intro hr out hf
    have ended : endOfService s = serve (endService out.state) := (sends hr).trans (serve_ended rfl hq hf)
    have line : out.state.li = { ({ s.li with queue := rest } : Li).flag .hunting s.li.inFrame with service := none } :=
      (judge_line (LineAt.start (sent.setLi { sent.li with queue := rest })) f.hdr.src f.req).li
    have onward : (again out.state).power = .on := judge_power f.hdr.src f.req (by exact hon)
    have first := exec_event_eq (c := .endOfService) hon ended rfl
    exact ⟨⟨_, first⟩, first.trans (exec_event_eq onward (endOfService_again hr line) rfl).symm⟩
  · intro hr ha out hf
    have ended : replyDrop s = serve (endService out.state) := (drops hr ha).trans (serve_ended rfl hq hf)
    have onward : (again out.state).power = .on := judge_power f.hdr.src f.req (by exact hon)
    have first := exec_event_eq (c := .replyDrop) hon ended rfl
    exact ⟨⟨_, first⟩, first.trans (exec_event_eq onward (replyDrop_again hr ha) rfl).symm⟩

end Sys2Proof.Machine

/-! # The closing of a frame (R53 to R67) -/

namespace Sys2Proof.Machine

variable {s t u : State} {ft : FrameTimer}

/-! ### What a closing frame is judged by, and the state it counts -/

/-- The reference speed as the closing frame judges it (R58). -/
def closingRef (ft : FrameTimer) (s : State) : Option SpeedRef :=
  judgeRef s.ct.table.refHold (msToBitTimes ft.interval - ft.elapsed) s.odo.ref

/-- What the closing frame is judged by. -/
def closingInput (ft : FrameTimer) (s : State) : FrameInput :=
  { count := s.odo.acc, tacho := s.odo.tacho, fresh := freshRef (closingRef ft s), lambda := s.ct.table.lambda,
    interval := ft.interval }

/-- The motion of the closing frame in the route's sense (R61). -/
def closingMotion (ft : FrameTimer) (s : State) : Int := routeSense s.rw.lead (closingInput ft s).motion

/-- The frame counted, its tachos not yet watched. -/
def counted (ft : FrameTimer) (s : State) : State :=
  s.setOdo { s.odo with
    timer := some ⟨s.ct.table.frameInterval, 0⟩
    frameNo := (s.odo.frameNo + 1) % Config.wrap16
    acc := ⟨0, 0⟩
    failure := ⟨(closingInput ft s).failureStreak .t1 s.odo.failure.t1, (closingInput ft s).failureStreak .t2 s.odo.failure.t2⟩
    disagree := disagreeAfter (closingInput ft s).case s.odo.disagree
    disagreeTold := s.odo.disagreeTold && Config.streakLimit ≤ disagreeAfter (closingInput ft s).case s.odo.disagree
    agree := agreeAfter (closingInput ft s).case s.odo.agree
    r := holdTo Config.routeEnd (s.odo.r + closingMotion ft s)
    d := closingMotion ft s
    quality := (closingInput ft s).case.quality
    lastInterval := ft.interval
    ref := closingRef ft s }

/-- The frame counted and its tachos watched. -/
def watched (ft : FrameTimer) (s : State) : State :=
  streakReports s.odo.agree (tachoFailed .t2 (tachoFailed .t1 (counted ft s)))

/-- The withdrawal of a standing offer when motion begins (R66, R155). -/
def offerOnMotion (before : Standstill) (s : State) : State :=
  if before = .standstill ∧ s.odo.standstill = .moving then withdrawOffer s else s

theorem closeFrame_eq (ft : FrameTimer) (s : State) : closeFrame ft s =
    let moved := offerOnMotion s.odo.standstill (decideStandstill (closingInput ft s) (watched ft s))
    moved.setPath { moved.path with atPfu := moved.path.atPfu ++
      [{ r := moved.odo.r, d := closingMotion ft s, quality := (closingInput ft s).case.quality,
         standstill := moved.odo.standstill, slip := slipFlag (closingInput ft s).fresh }] } := rfl

/-! ### What the watch of the tachos changes -/

/-- From `s` to `t` the tachos were watched: of the Odometer only what that counts has changed, and of the rest only the
fault list. -/
structure Watches (s t : State) : Prop where
  only : OnlySv (s.setOdo t.odo) t
  sv : t.sv = { s.sv with faults := t.sv.faults, listFull := t.sv.listFull, notice := t.sv.notice }
  odo : t.odo = { s.odo with tacho := t.odo.tacho, failure := t.odo.failure, disagreeTold := t.odo.disagreeTold }

theorem Watches.rest (h : Watches s t) : t.odo.quiet = s.odo.quiet ∧ t.odo.standstill = s.odo.standstill := by
  rw [h.odo]; exact ⟨rfl, rfl⟩

theorem Watches.refl (s : State) : Watches s s := ⟨.refl s, rfl, rfl⟩

theorem Watches.trans (h : Watches s t) (h' : Watches t u) : Watches s u := by
  obtain ⟨⟨h1, h2, h3, h4, -, h6, h7, h8, h9, h10, h11⟩, hsv, hodo⟩ := h
  obtain ⟨⟨g1, g2, g3, g4, -, g6, g7, g8, g9, g10, g11⟩, gsv, godo⟩ := h'
  refine ⟨⟨g1.trans h1, g2.trans h2, g3.trans h3, g4.trans h4, rfl, g6.trans h6, g7.trans h7, g8.trans h8, g9.trans h9,
    g10.trans h10, g11.trans h11⟩, ?_, ?_⟩
  · rw [hsv] at gsv; exact gsv
  · rw [hodo] at godo; exact godo

theorem takeFault_list (sv : Sv) (c : FaultCode) (sub : Subject) (d : Option Nat) (n : Nat) :
    sv.takeFault c sub d n = { sv with
      faults := (sv.takeFault c sub d n).faults, listFull := (sv.takeFault c sub d n).listFull,
      notice := (sv.takeFault c sub d n).notice } := by
  unfold Sv.takeFault; dsimp only; split_ifs <;> rfl

theorem raiseFault_watches (c : FaultCode) (sub : Subject) (s : State) : Watches s (raiseFault c sub s) :=
  ⟨raiseFault_onlySv c sub s, takeFault_list s.sv c sub _ _, rfl⟩

theorem tachoFailed_watches (x : Tacho) (s : State) : Watches s (tachoFailed x s) := by
  unfold tachoFailed
  split_ifs
  · obtain ⟨only, sv, odo⟩ := raiseFault_watches .tachoFailed (.tacho x)
      (s.setOdo { s.odo with tacho := s.odo.tacho.set x .failed, failure := s.odo.failure.set x 0 })
    exact ⟨only, sv, odo⟩
  · exact .refl s

theorem tachoDisagree_watches (s : State) : Watches s (tachoDisagree s) := by
  unfold tachoDisagree
  split_ifs
  · obtain ⟨only, sv, odo⟩ := raiseFault_watches .tachoDisagree .none (s.setOdo { s.odo with disagreeTold := true })
    exact ⟨only, sv, odo⟩
  · exact .refl s

theorem streakReports_watches (before : Nat) (s : State) : Watches s (streakReports before s) := by
  have agreed (t : State) : Watches t (tachoAgreementReached t) := by
    unfold tachoAgreementReached
    split_ifs
    exacts [⟨reportInactive_onlySv _ _ t, rfl, rfl⟩, .refl t]
  unfold streakReports
  split_ifs
  exacts [(tachoDisagree_watches s).trans (agreed _), tachoDisagree_watches s]

theorem watched_watches (ft : FrameTimer) (s : State) : Watches (counted ft s) (watched ft s) :=
  ((tachoFailed_watches .t1 _).trans (tachoFailed_watches .t2 _)).trans (streakReports_watches _ _)

/-! ### The standstill decision (R65) -/

/-- The quiet time and the standstill state that the decision leaves. -/
def decision (i : FrameInput) (limit quiet : Nat) (state : Standstill) : Nat × Standstill :=
  if someWorking i.tacho then
    if i.quiet then
      (min (quiet + i.interval) 2000, if limit ≤ min (quiet + i.interval) 2000 then .standstill else state)
    else (0, .moving)
  else if i.fresh.any (·.v = 0) then (quiet, .standstill) else (0, .moving)

theorem decideStandstill_eq (i : FrameInput) (s : State) : decideStandstill i s = s.setOdo { s.odo with
    quiet := (decision i s.ct.table.standstillTime s.odo.quiet s.odo.standstill).1
    standstill := (decision i s.ct.table.standstillTime s.odo.quiet s.odo.standstill).2 } := by
  unfold decideStandstill decision Config.quietMax
  cases hw : someWorking i.tacho
  · cases hf : i.fresh with
    | none => rfl
    | some r => by_cases hv : r.v = 0 <;> simp [hv]
  · cases hq : i.quiet
    · rfl
    · by_cases hl : s.ct.table.standstillTime ≤ min (s.odo.quiet + i.interval) 2000
      · simp only [if_true, State.setOdo_odo, if_pos hl]; exact if_pos hl
      · simp only [if_true, if_neg hl]; exact if_neg hl

theorem someWorking_iff (tacho : Duo TachoState) :
    someWorking tacho = true ↔ tacho.t1 = .working ∨ tacho.t2 = .working := by simp [someWorking]

theorem quiet_iff (i : FrameInput) : i.quiet = true ↔ (i.tacho.t1 = .working → i.count.t1 = 0) ∧
    (i.tacho.t2 = .working → i.count.t2 = 0) ∧ ∀ r, i.fresh = some r → r.v = 0 := by
  have watched (x : TachoState) (n : Int) : (x == .failed || n == 0) = true ↔ (x = .working → n = 0) := by cases x <;> simp
  unfold FrameInput.quiet
  rw [Bool.and_eq_true, Bool.and_eq_true, watched, watched, and_assoc]
  refine and_congr .rfl (and_congr .rfl ?_)
  cases i.fresh <;> simp

/-- The decision, by whether a tacho works and whether the frame was quiet (R65). -/
theorem decision_cases (i : FrameInput) (limit quiet : Nat) (state : Standstill) :
    (someWorking i.tacho = true → i.quiet = true → decision i limit quiet state = (min (quiet + i.interval) 2000,
      if limit ≤ min (quiet + i.interval) 2000 then .standstill else state)) ∧
    (someWorking i.tacho = true → i.quiet = false → decision i limit quiet state = (0, .moving)) ∧
    (someWorking i.tacho = false → (∃ r, i.fresh = some r ∧ r.v = 0) → decision i limit quiet state = (quiet, .standstill)) ∧
    (someWorking i.tacho = false → (∀ r, i.fresh = some r → r.v ≠ 0) → decision i limit quiet state = (0, .moving)) := by
  unfold decision
  refine ⟨fun hw hq => by rw [hw, hq]; rfl, fun hw hq => by rw [hw, hq]; rfl, fun hw ⟨r, hf, hv⟩ => ?_, fun hw hv => ?_⟩
  · rw [hw, hf]
    exact if_pos (decide_eq_true hv)
  · rw [hw]
    refine (if_neg nofun).trans (if_neg fun hany => ?_)
    cases hf : i.fresh with
    | none => rw [hf] at hany; exact absurd hany nofun
    | some r => rw [hf] at hany; exact hv r hf (by simpa using hany)

/-! ### The closed frame -/

theorem withdrawOffer_eq (s : State) : withdrawOffer s = s.setAa (match s.aa.auth with
    | .offered m _ => { s.aa with auth := .held m, offer := none }
    | _ => s.aa) := by
  unfold withdrawOffer
  cases s.aa.auth <;> rfl

theorem routeSense_eq (lead : VehicleEnd) (d : Int) : routeSense lead d = if lead = .a then d else -d := by
  cases lead <;> rfl

theorem holdTo_cast (hi : Nat) (x : Int) : (holdTo hi x : Int) = max 0 (min x hi) := by
  unfold holdTo; omega

theorem offerOnMotion_eq (before : Standstill) (s : State) : offerOnMotion before s =
    s.setAa (match s.aa.auth, before, s.odo.standstill with
      | .offered m _, .standstill, .moving => { s.aa with auth := .held m, offer := none }
      | _, _, _ => s.aa) := by
  unfold offerOnMotion
  by_cases h : before = .standstill ∧ s.odo.standstill = .moving
  · rw [if_pos h, withdrawOffer_eq, h.1, h.2]
    cases s.aa.auth <;> rfl
  · rw [if_neg h]
    generalize s.odo.standstill = after at h ⊢
    cases s.aa.auth <;> cases before <;> cases after <;> simp at h <;> rfl

/-- The state after a frame's closing. -/
structure Closed (ft : FrameTimer) (s t : State) : Prop where
  odo : t.odo = { (watched ft s).odo with
    quiet := (decision (closingInput ft s) s.ct.table.standstillTime s.odo.quiet s.odo.standstill).1
    standstill := (decision (closingInput ft s) s.ct.table.standstillTime s.odo.quiet s.odo.standstill).2 }
  sv : t.sv = (watched ft s).sv
  aa : t.aa = match s.aa.auth, s.odo.standstill, t.odo.standstill with
    | .offered m _, .standstill, .moving => { s.aa with auth := .held m, offer := none }
    | _, _, _ => s.aa
  path : t.path = { s.path with atPfu := s.path.atPfu ++
    [{ r := t.odo.r, d := closingMotion ft s, quality := (closingInput ft s).case.quality, standstill := t.odo.standstill,
       slip := slipFlag (closingInput ft s).fresh }] }
  blocks : t.power = s.power ∧ t.li = s.li ∧ t.rw = s.rw ∧ t.pfu = s.pfu ∧ t.ss = s.ss ∧ t.ac = s.ac ∧ t.ct = s.ct ∧
    t.pending = s.pending

theorem closeFrame_closed (ft : FrameTimer) (s : State) : Closed ft s (closeFrame ft s) := by
  rw [closeFrame_eq, decideStandstill_eq]
  have watches := watched_watches ft s
  have quiet : (watched ft s).odo.quiet = s.odo.quiet := watches.rest.1
  have still : (watched ft s).odo.standstill = s.odo.standstill := watches.rest.2
  obtain ⟨⟨hpower, hli, haa, hrw, -, hpfu, hss, hac, hct, hpath, hpending⟩, -, -⟩ := watches
  have hct : (watched ft s).ct = s.ct := hct
  rw [quiet, still, hct]
  generalize hout : decision (closingInput ft s) s.ct.table.standstillTime s.odo.quiet s.odo.standstill = out
  obtain ⟨q, state⟩ := out
  generalize hw : watched ft s = w at *
  dsimp only
  rw [offerOnMotion_eq]
  refine ⟨by rw [hw, hout]; rfl, by rw [hw]; rfl, ?_, ?_, hpower, hli, hrw, hpfu, hss, hac, hct, hpending⟩
  · show (match w.aa.auth, s.odo.standstill, state with
      | .offered m _, .standstill, .moving => { w.aa with auth := .held m, offer := none }
      | _, _, _ => w.aa) = _
    rw [show w.aa = s.aa from haa]; rfl
  · rw [← show w.path = s.path from hpath]; rfl

theorem slipFlag_eq (fresh : Option SpeedRef) : slipFlag fresh = fresh.any fun r => r.slide || r.spin := by
  cases fresh <;> rfl

theorem freshRef_eq (ref : Option SpeedRef) : freshRef ref = ref.filter fun r => r.stale = false := by
  unfold freshRef
  exact congrArg (Option.filter · ref) (funext fun r => by cases r.stale <;> rfl)

theorem exec_frameTimerExpiry (hon : s.power = .on) (ht : s.odo.timer = some ft) :
    exec .frameTimerExpiry s = .next (closeFrame ft s) :=
  exec_event_eq hon (by unfold frameTimerExpiry; rw [ht]) rfl

/-- Settles O41. -/
theorem frameExpiryClosesTheFrame : Obligations.FrameExpiryClosesTheFrame := by
  intro s hon
  refine ⟨fun ht => exec_event_eq hon (by unfold frameTimerExpiry; rw [ht]) rfl, fun ft ht => ?_,
    fun hw hm hl => exec_event_eq hon (if_pos ⟨(someWorking_iff _).2 hw, hm, hl⟩) rfl, fun hnot =>
      exec_event_eq hon (if_neg fun ⟨hw, hm, hl⟩ => ?_) rfl⟩
  · intro ref fresh i d working quiet
    have hfresh : fresh = freshRef (closingRef ft s) := (freshRef_eq _).symm
    have hi : i = closingInput ft s := by unfold closingInput; rw [← hfresh]
    have hd : d = closingMotion ft s := by unfold closingMotion; rw [routeSense_eq, ← hi]
    obtain ⟨hodo, hsv, haa, hpath, hpower, hli, hrw, hpfu, hss, hac, hct, hpending⟩ := closeFrame_closed ft s
    have watches := watched_watches ft s
    refine ⟨closeFrame ft s, exec_frameTimerExpiry hon ht, ?_⟩
    generalize closeFrame ft s = t at *
    obtain ⟨-, wsv, wodo⟩ := watches
    obtain ⟨busy, restless, still, moving⟩ := decision_cases i s.ct.table.standstillTime s.odo.quiet s.odo.standstill
    have rest : (t.odo.quiet, t.odo.standstill) = decision i s.ct.table.standstillTime s.odo.quiet s.odo.standstill := by
      rw [hodo, hi]
    have hworking : someWorking i.tacho = true ↔ working := someWorking_iff _
    have hquiet : i.quiet = true ↔ quiet := quiet_iff i
    have idle (h : ¬working) : someWorking i.tacho = false := Bool.eq_false_iff.2 fun hw => h (hworking.1 hw)
    have items : (t.odo.timer = some ⟨s.ct.table.frameInterval, 0⟩ ∧ t.odo.frameNo = (s.odo.frameNo + 1) % 65536 ∧
        t.odo.acc = ⟨0, 0⟩ ∧ t.odo.ref = ref ∧ t.odo.lastInterval = ft.interval ∧ t.odo.d = d ∧
        t.odo.quality = i.case.quality) ∧ t.odo.r = holdTo Config.routeEnd (s.odo.r + d) := by
      rw [hodo, wodo, hi, hd]
      exact ⟨⟨rfl, rfl, rfl, rfl, rfl, rfl, rfl⟩, rfl⟩
    obtain ⟨⟨h1, h2, h3, h4, h5, h6, h7⟩, hr⟩ := items
    refine ⟨h1, h2, h3, h4, h5, h6, h7, by rw [hr, holdTo_cast]; rfl,
      fun hw hq => Prod.ext_iff.1 (rest.trans (busy (hworking.2 hw) (hquiet.2 hq))),
      fun hw hq => Prod.ext_iff.1 (rest.trans (restless (hworking.2 hw) (Bool.eq_false_iff.2 fun h => hq (hquiet.1 h)))),
      fun hw hr => Prod.ext_iff.1 (rest.trans (still (idle hw) hr)),
      fun hw hr => Prod.ext_iff.1 (rest.trans (moving (idle hw) hr)), haa, ?_, hpower.trans hon, hli, hrw, hpfu, hss, hac, hct, ?_,
      hpending⟩
    · rw [hpath, hd, hi, slipFlag_eq, hfresh]; rfl
    · rw [hsv]; exact wsv
  · rw [someWorking_iff] at hw
    obtain ⟨h1, h2⟩ | hs | hq := hnot
    · rw [h1, h2] at hw; exact hw.elim nofun nofun
    · rw [hs] at hm; exact absurd hm nofun
    · omega

end Sys2Proof.Machine

/-! # The watch of the tachos (R62 to R64) -/

namespace Sys2Proof.Machine

variable {s t u : State} {ft : FrameTimer} {x y : Tacho}

/-! ### What a report leaves of the list (R197 to R200) -/

/-- A report leaves every active record that it does not concern. -/
theorem raiseFault_keeps_active {c : FaultCode} {sub : Subject} {g : FaultRecord} (h : g ∈ s.sv.faults) (ha : g.active = true)
    (hg : g.concerns c sub = false) : g ∈ (raiseFault c sub s).sv.faults := by
  have restamped : g ∈ s.sv.faults.map fun f =>
      if f.concerns c sub then f.stamp (stampDistance s) s.odo.frameNo else f :=
    List.mem_map.2 ⟨g, h, if_neg (by rw [hg]; nofun)⟩
  rw [raiseFault_sv]
  unfold Sv.takeFault
  dsimp only
  split_ifs
  · exact restamped
  · exact restamped
  · exact List.mem_append_left _ h
  · exact List.mem_append_left _ ((List.mem_eraseP_of_neg (by simp [ha])).2 h)
  · exact h

/-- A report adds at most one record. -/
theorem raiseFault_length (c : FaultCode) (sub : Subject) (s : State) :
    (raiseFault c sub s).sv.faults.length ≤ s.sv.faults.length + 1 := by
  rw [raiseFault_sv]
  unfold Sv.takeFault
  dsimp only
  split_ifs
  · simp
  · simp
  · simp
  · simpa using List.length_eraseP_le
  · simp

/-- A report of inactivity leaves every record that it does not concern. -/
theorem reportInactive_keeps_other {c : FaultCode} {sub : Subject} {g : FaultRecord} (h : g ∈ s.sv.faults)
    (hg : g.concerns c sub = false) : g ∈ (reportInactive c sub s).sv.faults :=
  List.mem_map.2 ⟨g, h, if_neg (by rw [hg]; nofun)⟩

/-! ### Which tacho a frame makes FAILED (R62) -/

/-- A tacho becomes FAILED with its report. -/
def tachoLost (x : Tacho) (s : State) : State :=
  raiseFault .tachoFailed (.tacho x)
    (s.setOdo { s.odo with tacho := s.odo.tacho.set x .failed, failure := s.odo.failure.set x 0 })

theorem tachoFailed_of (h : s.odo.tacho.get x = .working ∧ 25 ≤ s.odo.failure.get x) : tachoFailed x s = tachoLost x s := if_pos h

theorem tachoFailed_not (h : ¬(s.odo.tacho.get x = .working ∧ 25 ≤ s.odo.failure.get x)) : tachoFailed x s = s := if_neg h

/-- The frame is a WORKING tacho's 25th failure frame in a row. -/
def Fails (ft : FrameTimer) (s : State) (x : Tacho) : Prop :=
  s.odo.tacho.get x = .working ∧ (closingInput ft s).failureCheck x = true ∧ s.odo.failure.get x = 24

theorem other_eq (h : x ≠ y) : Tacho.other x = y := by
  cases x <;> cases y
  exacts [absurd rfl h, rfl, rfl, absurd rfl h]

theorem failureCheck_iff {i : FrameInput} (h : x ≠ y) : i.failureCheck x = true ↔ i.count.get x = 0 ∧
    ((i.tacho.get y = .working ∧ 3 ≤ (i.count.get y).natAbs) ∨
      (i.tacho.get y = .failed ∧ ∃ r, i.fresh = some r ∧ 3 * i.lambda.get x ≤ (r.v * i.interval).natAbs)) := by
  unfold FrameInput.failureCheck
  rw [other_eq h]
  cases i.tacho.get y
  · simp
  · cases hf : i.fresh with
    | none => simp [refDistance]
    | some r =>
      simp only [refDistance, Option.isSome_some, Bool.true_and, Bool.and_eq_true, beq_iff_eq, reduceCtorEq, false_and, false_or,
        true_and, Option.some.injEq, exists_eq_left']
      exact and_congr .rfl ⟨of_decide_eq_true, decide_eq_true⟩

/-- No frame is a failure frame of two WORKING tachos. -/
theorem fails_alone (h : x ≠ y) (hx : Fails ft s x) : ¬Fails ft s y := by
  rintro ⟨hw, hcheck, -⟩
  obtain ⟨-, hx, -⟩ := hx
  obtain ⟨-, ⟨-, hcount⟩ | ⟨hfailed, -⟩⟩ := (failureCheck_iff h).1 hx
  · have zero := ((failureCheck_iff h.symm).1 hcheck).1
    rw [zero] at hcount
    exact absurd hcount (by decide)
  · exact absurd (hw.symm.trans hfailed) nofun

theorem counted_failure (ft : FrameTimer) (s : State) (x : Tacho) : (counted ft s).odo.tacho.get x = s.odo.tacho.get x ∧
    (counted ft s).odo.failure.get x = (closingInput ft s).failureStreak x (s.odo.failure.get x) := by
  cases x <;> exact ⟨rfl, rfl⟩

theorem failureStreak_of {n : Nat} {i : FrameInput} :
    (i.tacho.get x = .failed → i.failureStreak x n = n) ∧
    (i.tacho.get x = .working → i.failureCheck x = true → i.failureStreak x n = n + 1) ∧
    (i.tacho.get x = .working → i.failureCheck x = false → i.failureStreak x n = 0) := by
  unfold FrameInput.failureStreak
  exact ⟨fun h => by rw [h], fun h hc => by rw [h, hc]; rfl, fun h hc => by rw [h, hc]; rfl⟩

theorem failure_lt (h : s.odo.InRange) (x : Tacho) : s.odo.failure.get x < 25 := by
  cases x
  exacts [h.failure1, h.failure2]

/-- The row TACHO_FAILED stands after the count exactly for the tacho that fails. -/
theorem counted_fails_iff (h : s.odo.InRange) : Fails ft s x ↔
    (counted ft s).odo.tacho.get x = .working ∧ 25 ≤ (counted ft s).odo.failure.get x := by
  obtain ⟨htacho, hfailure⟩ := counted_failure ft s x
  have hlt := failure_lt h x
  obtain ⟨-, hcheck, hnone⟩ := @failureStreak_of x (s.odo.failure.get x) (closingInput ft s)
  rw [htacho, hfailure]
  refine ⟨fun ⟨hw, hc, hn⟩ => ⟨hw, by rw [hcheck hw hc, hn]⟩, fun ⟨hw, hle⟩ => ⟨hw, ?_⟩⟩
  cases hc : (closingInput ft s).failureCheck x
  · rw [hnone hw hc] at hle; omega
  · rw [hcheck hw hc] at hle; exact ⟨rfl, by omega⟩

/-- Both rows TACHO_FAILED taken after the count: the tacho that fails is lost, and nothing else changes. -/
theorem tachos_of_fails (h : s.odo.InRange) (hf : Fails ft s x) :
    tachoFailed .t2 (tachoFailed .t1 (counted ft s)) = tachoLost x (counted ft s) := by
  cases x
  · rw [tachoFailed_of ((counted_fails_iff h).1 hf)]
    exact tachoFailed_not fun hrow => fails_alone (x := .t1) (y := .t2) nofun hf ((counted_fails_iff h).2 hrow)
  · rw [tachoFailed_not (x := .t1) fun hrow => fails_alone (x := .t2) (y := .t1) nofun hf ((counted_fails_iff h).2 hrow)]
    exact tachoFailed_of ((counted_fails_iff h).1 hf)

theorem tachos_of_none (h : s.odo.InRange) (hf : ∀ x, ¬Fails ft s x) :
    tachoFailed .t2 (tachoFailed .t1 (counted ft s)) = counted ft s := by
  rw [tachoFailed_not (x := .t1) fun hrow => hf .t1 ((counted_fails_iff h).2 hrow)]
  exact tachoFailed_not fun hrow => hf .t2 ((counted_fails_iff h).2 hrow)

/-- What both rows leave, whichever tacho fails. -/
theorem tachos_cases (h : s.odo.InRange) : (∃ x, Fails ft s x ∧
      tachoFailed .t2 (tachoFailed .t1 (counted ft s)) = tachoLost x (counted ft s)) ∨
    (∀ x, ¬Fails ft s x) ∧ tachoFailed .t2 (tachoFailed .t1 (counted ft s)) = counted ft s := by
  by_cases hf : ∃ x, Fails ft s x
  · obtain ⟨x, hx⟩ := hf
    exact .inl ⟨x, hx, tachos_of_fails h hx⟩
  · have none : ∀ x, ¬Fails ft s x := fun x hx => hf ⟨x, hx⟩
    exact .inr ⟨none, tachos_of_none h none⟩

/-! ### The Odometer after the watch -/

theorem watched_tacho (ft : FrameTimer) (s : State) :
    (watched ft s).odo.tacho = (tachoFailed .t2 (tachoFailed .t1 (counted ft s))).odo.tacho ∧
      (watched ft s).odo.failure = (tachoFailed .t2 (tachoFailed .t1 (counted ft s))).odo.failure := by
  unfold watched
  rw [streakReports_odo]
  split_ifs <;> exact ⟨rfl, rfl⟩

theorem watched_of_fails (h : s.odo.InRange) (hf : Fails ft s x) :
    (watched ft s).odo.tacho.get x = .failed ∧ (watched ft s).odo.failure.get x = 0 := by
  obtain ⟨htacho, hfailure⟩ := watched_tacho ft s
  rw [htacho, hfailure, tachos_of_fails h hf]
  exact ⟨Duo.get_set_self _ _ _, Duo.get_set_self _ _ _⟩

theorem watched_of_not (h : s.odo.InRange) (hf : ¬Fails ft s x) : (watched ft s).odo.tacho.get x = s.odo.tacho.get x ∧
    (watched ft s).odo.failure.get x = (closingInput ft s).failureStreak x (s.odo.failure.get x) := by
  obtain ⟨htacho, hfailure⟩ := watched_tacho ft s
  obtain ⟨ctacho, cfailure⟩ := counted_failure ft s x
  rw [htacho, hfailure]
  obtain ⟨y, hy, heq⟩ | ⟨-, heq⟩ := tachos_cases (ft := ft) h
  · have hne : x ≠ y := fun hxy => hf (hxy ▸ hy)
    rw [heq]
    exact ⟨(Duo.get_set_ne _ _ hne).trans ctacho, (Duo.get_set_ne _ _ hne).trans cfailure⟩
  · rw [heq]; exact ⟨ctacho, cfailure⟩

theorem counted_inRange (h : s.odo.InRange) : (counted ft s).odo.Counted := by
  refine ⟨fun ht => ?_, holdTo_le _ _, Nat.mod_lt _ (by decide), disagreeAfter_le _ h.disagree, agreeAfter_le _ h.agree,
    fun x => ?_, h.quiet⟩
  · have stands := (Bool.and_eq_true_iff.1 ht).2
    exact Nat.le_antisymm (disagreeAfter_le _ h.disagree) (of_decide_eq_true stands)
  · cases x
    exacts [failureStreak_or _ .t1 h.failure1, failureStreak_or _ .t2 h.failure2]

/-! ### The reports of the streaks (R64, R200) -/

theorem streakReports_keeps_other {before : Nat} {g : FaultRecord} (h : g ∈ s.sv.faults) (ha : g.active = true)
    (hc : g.code ≠ .tachoDisagree) : g ∈ (streakReports before s).sv.faults := by
  have hg : g.concerns .tachoDisagree .none = false := Bool.eq_false_iff.2 fun hcon => hc ((g.concerns_iff _ _).1 hcon).1
  have told : g ∈ (tachoDisagree s).sv.faults := by
    unfold tachoDisagree
    split_ifs
    exacts [raiseFault_keeps_active (s := s.setOdo _) h ha hg, h]
  unfold streakReports tachoAgreementReached
  split_ifs
  exacts [reportInactive_keeps_other told hg, told, told]

/-- While the agreement streak is not at its limit only a disagreement is reported. -/
theorem streakReports_of_apart {before : Nat} (h : s.odo.agree < 50) : streakReports before s = tachoDisagree s := by
  have hn : ¬50 ≤ (tachoDisagree s).odo.agree := by
    rw [show (tachoDisagree s).odo.agree = s.odo.agree from by rw [(tachoDisagree_watches s).odo]]; omega
  have silent : tachoAgreementReached (tachoDisagree s) = tachoDisagree s := if_neg hn
  unfold streakReports
  rw [silent, ite_self]

theorem streakReports_of_reached {before : Nat} (hb : before < 50) (h : 50 ≤ s.odo.agree) :
    streakReports before s = reportInactive .tachoDisagree .none (tachoDisagree s) := by
  have hn : 50 ≤ (tachoDisagree s).odo.agree := by
    rw [show (tachoDisagree s).odo.agree = s.odo.agree from by rw [(tachoDisagree_watches s).odo]]; exact h
  unfold streakReports
  rw [if_pos (show before < Config.streakLimit from hb)]
  exact if_pos hn

/-! ### The frame's watch, item by item -/

theorem watched_streaks (h : s.odo.InRange) : (watched ft s).odo.disagree = disagreeAfter (closingInput ft s).case s.odo.disagree ∧
    (watched ft s).odo.agree = agreeAfter (closingInput ft s).case s.odo.agree ∧
    ((watched ft s).odo.disagreeTold = true ↔ (watched ft s).odo.disagree = 50) := by
  refine ⟨?_, ?_, ((counted_inRange (ft := ft) h).watched s.odo.agree).told⟩
  · rw [(watched_watches ft s).odo]; rfl
  · rw [(watched_watches ft s).odo]; rfl

/-- The tacho that fails has its record. -/
theorem watched_tacho_recorded (h : s.odo.InRange) (hf : Fails ft s x) (hroom : s.sv.faults.length < 16) :
    ∃ f ∈ (watched ft s).sv.faults, f.code = .tachoFailed ∧ f.subject = .tacho x ∧ f.active = true ∧
      f.frame = (s.odo.frameNo + 1) % 65536 := by
  obtain ⟨f, hmem, hcode, hsub, hact, hframe, -⟩ := raiseFault_raised .tachoFailed (.tacho x) ((counted ft s).setOdo
    { (counted ft s).odo with tacho := (counted ft s).odo.tacho.set x .failed, failure := (counted ft s).odo.failure.set x 0 })
    hroom
  refine ⟨f, ?_, hcode, hsub, hact, hframe⟩
  unfold watched
  rw [tachos_of_fails h hf]
  exact streakReports_keeps_other hmem hact (by rw [hcode]; nofun)

theorem tachoLost_mem {f : FaultRecord} (h : f ∈ (tachoLost x s).sv.faults) (hc : f.code ≠ .tachoFailed) : f ∈ s.sv.faults := by
  unfold tachoLost at h
  exact raiseFault_mem h hc

/-- The watch of the tachos leaves the streaks, adds at most one record, and brings none of a disagreement. -/
theorem tachos_leave (h : s.odo.InRange) : let t := tachoFailed .t2 (tachoFailed .t1 (counted ft s))
    (t.odo.disagree = (counted ft s).odo.disagree ∧ t.odo.agree = (counted ft s).odo.agree ∧
      t.odo.disagreeTold = (counted ft s).odo.disagreeTold ∧ t.odo.frameNo = (s.odo.frameNo + 1) % 65536) ∧
    t.sv.faults.length ≤ s.sv.faults.length + 1 ∧ ∀ f ∈ t.sv.faults, f.code = .tachoDisagree → f ∈ s.sv.faults := by
  intro t
  obtain ⟨x, -, heq⟩ | ⟨-, heq⟩ := tachos_cases (ft := ft) h
  · rw [show t = tachoLost x (counted ft s) from heq]
    exact ⟨⟨rfl, rfl, rfl, rfl⟩, raiseFault_length _ _ (State.setOdo _ _), fun f hf hc => tachoLost_mem (s := counted ft s) hf
      (by rw [hc]; exact nofun)⟩
  · rw [show t = counted ft s from heq]
    exact ⟨⟨rfl, rfl, rfl, rfl⟩, Nat.le_succ _, fun f hf _ => hf⟩

/-- A frame of tachos apart leaves only a disagreement to report. -/
theorem watched_of_apart (h : s.odo.InRange) (hc : (closingInput ft s).case = .c3) :
    watched ft s = tachoDisagree (tachoFailed .t2 (tachoFailed .t1 (counted ft s))) := by
  obtain ⟨⟨-, hagree, -⟩, -⟩ := tachos_leave (ft := ft) h
  refine streakReports_of_apart ?_
  rw [hagree, show (counted ft s).odo.agree = agreeAfter (closingInput ft s).case s.odo.agree from rfl, hc]
  exact Nat.zero_lt_succ _

theorem disagree_recorded (h : s.odo.InRange) (hc : (closingInput ft s).case = .c3) (hn : s.odo.disagree = 49)
    (hroom : s.sv.faults.length < 15) : ∃ f ∈ (watched ft s).sv.faults, f.code = .tachoDisagree ∧ f.subject = .none ∧
      f.active = true ∧ f.frame = (s.odo.frameNo + 1) % 65536 := by
  obtain ⟨⟨hdis, -, htold, hframe⟩, hlen, -⟩ := tachos_leave (ft := ft) h
  have untold : s.odo.disagreeTold = false := Bool.eq_false_iff.2 fun ht => by have := h.told.1 ht; omega
  have stands : 50 ≤ (tachoFailed .t2 (tachoFailed .t1 (counted ft s))).odo.disagree := by
    rw [hdis, show (counted ft s).odo.disagree = disagreeAfter (closingInput ft s).case s.odo.disagree from rfl, hc, hn]
    exact Nat.le_refl _
  have silent : (tachoFailed .t2 (tachoFailed .t1 (counted ft s))).odo.disagreeTold = false := by
    rw [htold]
    show (s.odo.disagreeTold && _) = false
    rw [untold]; rfl
  rw [watched_of_apart h hc, tachoDisagree, if_pos ⟨stands, silent⟩, ← hframe]
  obtain ⟨f, hmem, hcode, hsub, hact, hstamp, -⟩ := raiseFault_raised .tachoDisagree .none
    ((tachoFailed .t2 (tachoFailed .t1 (counted ft s))).setOdo
      { (tachoFailed .t2 (tachoFailed .t1 (counted ft s))).odo with disagreeTold := true })
    (show _ < 16 from Nat.lt_of_le_of_lt hlen (by omega))
  exact ⟨f, hmem, hcode, hsub, hact, hstamp⟩

/-- A disagreement told already is not told again (R200). -/
theorem disagree_silent (h : s.odo.InRange) (hc : (closingInput ft s).case = .c3) (hn : s.odo.disagree = 50)
    {f : FaultRecord} (hf : f ∈ (watched ft s).sv.faults) (hcode : f.code = .tachoDisagree) : f ∈ s.sv.faults := by
  obtain ⟨⟨-, -, htold, -⟩, -, hmem⟩ := tachos_leave (ft := ft) h
  have told : (tachoFailed .t2 (tachoFailed .t1 (counted ft s))).odo.disagreeTold = true := by
    rw [htold]
    show (s.odo.disagreeTold && decide (50 ≤ disagreeAfter (closingInput ft s).case s.odo.disagree)) = true
    rw [h.told.2 hn, hc, hn]; rfl
  have silent : tachoDisagree (tachoFailed .t2 (tachoFailed .t1 (counted ft s))) = tachoFailed .t2 (tachoFailed .t1 (counted ft s)) :=
    if_neg fun hnot => Bool.false_ne_true (hnot.2.symm.trans told)
  rw [watched_of_apart h hc, silent] at hf
  exact hmem f hf hcode

theorem agreement_ends (h : s.odo.InRange) (hc : (closingInput ft s).case = .c2) (hn : s.odo.agree = 49)
    {f : FaultRecord} (hf : f ∈ (watched ft s).sv.faults) (hcode : f.code = .tachoDisagree) (hsub : f.subject = .none) :
    f.active = false := by
  obtain ⟨⟨-, hagree, -⟩, -⟩ := tachos_leave (ft := ft) h
  have reached : 50 ≤ (tachoFailed .t2 (tachoFailed .t1 (counted ft s))).odo.agree := by
    rw [hagree, show (counted ft s).odo.agree = agreeAfter (closingInput ft s).case s.odo.agree from rfl, hc, hn]
    exact Nat.le_refl _
  unfold watched at hf
  rw [streakReports_of_reached (by omega) reached] at hf
  exact reportInactive_inactive hf hcode hsub

/-- Settles O42. -/
theorem tachosAreWatched : Obligations.TachosAreWatched := by
  intro s ft hon ht hrange ref fresh i
  obtain ⟨ho, -⟩ := RangeInv_iff.1 hrange
  have hfresh : fresh = freshRef (closingRef ft s) := (freshRef_eq _).symm
  have hi : i = closingInput ft s := by unfold closingInput; rw [← hfresh]
  refine ⟨⟨closeFrame ft s, exec_frameTimerExpiry hon ht, ?_⟩, fun x => exec_event_eq hon (if_neg fun ⟨_, hn⟩ => ?_) rfl,
    fun x n hn hw => ?_, exec_event_eq hon (if_neg fun ⟨hn, hnot⟩ => ?_) rfl, fun n hn => ?_,
    fun ha => exec_event_eq hon (if_pos (ge_of_eq ha)) rfl, fun ha => exec_event_eq hon (if_neg (Nat.not_le.2 ha)) rfl⟩
  · obtain ⟨hodo, hsv, -⟩ := closeFrame_closed ft s
    generalize closeFrame ft s = t at *
    obtain ⟨sdis, sagree, stold⟩ := watched_streaks (ft := ft) ho
    have items : t.odo.tacho = (watched ft s).odo.tacho ∧ t.odo.failure = (watched ft s).odo.failure ∧
        t.odo.disagree = (watched ft s).odo.disagree ∧ t.odo.agree = (watched ft s).odo.agree ∧
        t.odo.disagreeTold = (watched ft s).odo.disagreeTold := by rw [hodo]; exact ⟨rfl, rfl, rfl, rfl, rfl⟩
    obtain ⟨htacho, hfailure, hdis, hagree, htold⟩ := items
    rw [htacho, hfailure, hdis, hagree, htold, hsv, hi]
    refine ⟨fun x y hxy => ?_, fun hc => ?_, fun hc => ?_, fun hc => ?_, fun h1 h2 h3 => ?_,
      fun hc hn hroom => disagree_recorded ho hc hn hroom, fun hc hn f hf hcode => disagree_silent ho hc hn hf hcode, stold,
      fun hc hn f hf hcode hsub => agreement_ends ho hc hn hf hcode hsub⟩
    · intro check
      have hcheck : (closingInput ft s).failureCheck x = true ↔ check := by rw [← hi]; exact failureCheck_iff hxy
      obtain ⟨afterFailed, afterCheck, afterNone⟩ := @failureStreak_of x (s.odo.failure.get x) (closingInput ft s)
      have stays := watched_of_not (ft := ft) (x := x) ho
      refine ⟨fun hf => ?_, fun hw hc => ?_, fun hw hc hn => ?_, fun hw hc hn => ?_⟩
      · rw [← afterFailed hf, ← hf]
        exact stays fun hfails => absurd (hf.symm.trans hfails.1) nofun
      · rw [← hw, ← afterNone hw (Bool.eq_false_iff.2 fun h => hc (hcheck.1 h))]
        exact stays fun hfails => hc (hcheck.1 hfails.2.1)
      · rw [← hw, ← afterCheck hw (hcheck.2 hc)]
        exact stays fun hfails => absurd hfails.2.2 (Nat.ne_of_lt hn)
      · have fails : Fails ft s x := ⟨hw, hcheck.2 hc, hn⟩
        obtain ⟨h1, h2⟩ := watched_of_fails ho fails
        exact ⟨h1, h2, fun hroom => watched_tacho_recorded ho fails hroom⟩
    · rw [sdis, sagree, hc]; exact ⟨rfl, rfl⟩
    · rw [sdis, sagree, hc]; exact ⟨rfl, rfl⟩
    · rw [sdis, sagree, hc]; exact ⟨rfl, rfl⟩
    · rw [sdis, sagree]
      cases hc : (closingInput ft s).case
      case c1 => exact absurd hc h1
      case c2 => exact absurd hc h2
      case c3 => exact absurd hc h3
      all_goals exact ⟨rfl, rfl⟩
  · intro u
    have stands : 25 ≤ u.odo.failure.get x := hn.trans_eq (Duo.get_set_self _ _ _).symm
    have again : (s.odo.failure.set x n).set x 0 = s.odo.failure.set x 0 := by cases x <;> rfl
    refine exec_event_eq hon ((tachoFailed_of (s := u) ⟨hw, stands⟩).trans ?_) rfl
    rw [← again]; rfl
  · exact ⟨exec_event_eq hon (if_pos ⟨hn, rfl⟩) rfl, exec_event_eq hon (if_neg fun hnot => absurd hnot.2 nofun) rfl⟩
  · exact absurd (failure_lt ho x) (Nat.not_lt.2 hn)
  · have told := ho.told.2 (Nat.le_antisymm ho.disagree hn)
    exact Bool.false_ne_true (hnot.symm.trans told)

end Sys2Proof.Machine

/-! # Corrections, marks and the beacons of the window -/

namespace Sys2Proof.Machine

variable {s t u : State}

/-! ### What arrives (R15, R68) -/

theorem applyMark_eq (m : Mark) (g : Segment) :
    (∀ b, g.beacon = some b → g.index = m.index → b.status = .pending →
      g.applyMark m = { g with beacon := some { b with status := m.status } }) ∧
    ((g.beacon = none ∨ g.index ≠ m.index ∨ ∃ b, g.beacon = some b ∧ b.status ≠ .pending) → g.applyMark m = g) := by
  unfold Segment.applyMark
  cases hb : g.beacon with
  | none => exact ⟨nofun, fun _ => rfl⟩
  | some b =>
    refine ⟨?_, fun h => if_neg ?_⟩
    · rintro b ⟨⟩ hi hp
      exact if_pos ⟨hi, hp⟩
    · rintro ⟨hi, hp⟩
      obtain h | h | ⟨b', hb', h⟩ := h
      · exact absurd h nofun
      · exact h hi
      · cases hb'; exact h hp

/-- Settles O45. -/
theorem correctionsAndMarksArrive : Obligations.CorrectionsAndMarksArrive := by
  intro s hon
  refine ⟨fun h => exec_event_eq hon ?_ rfl, fun c rest h => exec_event_eq hon ?_ rfl,
    fun c rest h => ⟨holdTo Config.routeEnd (((s.odo.r / 1000 : Nat) + c) * 1000), holdTo_cast _ _, exec_event_eq hon ?_ rfl⟩,
    fun h => exec_event_eq hon ?_ rfl, fun m rest h => exec_event_eq hon ?_ rfl,
    fun m rest h => ⟨s.rw.segs.map (Segment.applyMark m), exec_event_eq hon ?_ rfl, List.length_map _, fun n g g' hg hg' => ?_⟩⟩
  · unfold positionCorrection; rw [h]
  · unfold positionCorrection; rw [h]; rfl
  · unfold positionCorrection; rw [h]; rfl
  · unfold beaconMark; rw [h]
  · unfold beaconMark; rw [h]; rfl
  · unfold beaconMark; rw [h]; rfl
  · rw [List.getElem?_map, hg] at hg'
    obtain rfl : g.applyMark m = g' := Option.some.inj hg'
    exact applyMark_eq m g

/-! ### The beacons of the window, by position (R5, R15) -/

theorem beaconsFrom_eq (see : BeaconAt → BeaconAt) (start : Nat) (segs : List Segment) :
    (beaconsFrom start segs).map see = (List.range segs.length).filterMap fun n => (segs[n]?).bind fun g =>
      g.beacon.map fun b => see ⟨g.index, b.id, start + ((segs.take n).map fun g => g.length).sum + b.offset, b.status⟩ := by
  induction segs generalizing start with
  | nil => rfl
  | cons g segs ih =>
    have rest : (beaconsFrom (start + g.length) segs).map see =
        (List.range segs.length).filterMap fun n => ((g :: segs)[n + 1]?).bind fun g' => g'.beacon.map fun b =>
          see ⟨g'.index, b.id, start + (((g :: segs).take (n + 1)).map fun g => g.length).sum + b.offset, b.status⟩ := by
      rw [ih]
      refine List.filterMap_congr fun n _ => ?_
      simp [Nat.add_assoc]
    rw [List.length_cons, List.range_succ_eq_map, List.filterMap_cons, List.filterMap_map]
    unfold beaconsFrom
    cases hb : g.beacon with
    | none => simpa [hb, Function.comp_def] using rest
    | some b => simpa [hb, Function.comp_def] using rest

/-- The beacons seen, each at its record's start plus its offset and with the mark in flight on its index applied. -/
theorem beaconsSeen_eq (s : State) : beaconsSeen s = if s.rw.isOpen then
    (List.range s.rw.segs.length).filterMap fun n => (s.rw.segs[n]?).bind fun g => g.beacon.map fun b =>
      { index := g.index, id := b.id
        distance := s.rw.rear + ((s.rw.segs.take n).map fun g => g.length).sum + b.offset
        status := match s.pfu.marks.find? fun m => m.index == g.index with
          | some m => if b.status = .pending then m.status else b.status
          | none => b.status }
    else [] := by
  unfold beaconsSeen Rw.beacons
  split_ifs
  · rw [beaconsFrom_eq]
    refine List.filterMap_congr fun n _ => ?_
    unfold statusWithMarks
    congr 1
    funext g
    congr 1
    funext b
    cases s.pfu.marks.find? fun m => m.index == g.index <;> rfl
  · rfl

/-! ### Beacons missed (R77, R78) -/

/-- From `s` to `t` these beacons were marked MISSED with their penalties, and the miss count reported where it reached 2. -/
structure Missed (bs : List BeaconAt) (s t : State) : Prop where
  pfu : t.pfu = { s.pfu with
    u := min (s.pfu.u + bs.length * 1000000) 65535000
    miss := min (s.pfu.miss + bs.length) 255
    missTold := decide (2 ≤ s.pfu.miss + bs.length)
    marks := s.pfu.marks ++ bs.map fun b => ⟨b.index, .missed⟩ }
  path : t.path = { s.path with marks := s.path.marks ++ bs.map fun b => ⟨⟨b.index, .missed⟩, false⟩ }
  raised : s.pfu.miss < 2 → 2 ≤ s.pfu.miss + bs.length → Raised .beaconMissed .none s t
  silent : (s.pfu.miss + bs.length < 2 ∨ 2 ≤ s.pfu.miss) → t.sv = s.sv
  orders : KeepsOrders s t
  blocks : t.power = s.power ∧ t.li = s.li ∧ t.aa = s.aa ∧ t.rw = s.rw ∧ t.odo = s.odo ∧ t.ss = s.ss ∧ t.ac = s.ac ∧
    t.ct = s.ct ∧ t.pending = s.pending

theorem Missed.nil (h : s.pfu.InRange) : Missed [] s s := by
  have same : s.pfu = { s.pfu with
      u := min (s.pfu.u + ([] : List BeaconAt).length * 1000000) 65535000
      miss := min (s.pfu.miss + ([] : List BeaconAt).length) 255
      missTold := decide (2 ≤ s.pfu.miss + ([] : List BeaconAt).length)
      marks := s.pfu.marks ++ ([] : List BeaconAt).map fun b => ⟨b.index, .missed⟩ } := by
    have hu : min s.pfu.u 65535000 = s.pfu.u := Nat.min_eq_left h.uncertainty
    have hm : min s.pfu.miss 255 = s.pfu.miss := Nat.min_eq_left h.miss
    have ht : decide (2 ≤ s.pfu.miss) = s.pfu.missTold := Bool.eq_iff_iff.2 (by rw [decide_eq_true_iff, h.told])
    simp [hu, hm, ht]
  refine ⟨same, by simp, fun h1 h2 => ?_, fun _ => rfl, .refl s, rfl, rfl, rfl, rfl, rfl, rfl, rfl, rfl, rfl⟩
  simp only [List.length_nil] at h2
  omega

theorem Missed.inRange {bs : List BeaconAt} (h : Missed bs s t) : t.pfu.InRange := by
  rw [h.pfu]
  refine ⟨?_, Nat.min_le_right _ _, Nat.min_le_right _ _⟩
  simp only [decide_eq_true_eq]
  omega

theorem Missed.trans {bs cs : List BeaconAt} (h : Missed bs s t) (h' : Missed cs t u) : Missed (bs ++ cs) s u := by
  obtain ⟨hpfu, hpath, hraised, hsilent, horders, h1, h2, h3, h4, hodo, h6, h7, h8, h9⟩ := h
  obtain ⟨gpfu, gpath, graised, gsilent, gorders, g1, g2, g3, g4, godo, g6, g7, g8, g9⟩ := h'
  have hmiss : t.pfu.miss = min (s.pfu.miss + bs.length) 255 := congrArg Pfu.miss hpfu
  have hconf : t.pfu.conf = s.pfu.conf := by rw [hpfu]
  refine ⟨?_, ?_, fun hlow hhigh => ?_, fun hs => ?_, horders.trans gorders, g1.trans h1, g2.trans h2, g3.trans h3, g4.trans h4,
    godo.trans hodo, g6.trans h6, g7.trans h7, g8.trans h8, g9.trans h9⟩
  · rw [gpfu, hpfu]
    simp only [List.length_append, List.map_append, List.append_assoc, Pfu.mk.injEq, true_and, decide_eq_decide]
    exact ⟨by omega, by omega, by omega, trivial⟩
  · rw [gpath, hpath]
    simp
  · rw [List.length_append] at hhigh
    by_cases hfirst : 2 ≤ s.pfu.miss + bs.length
    · have rest : u.sv = t.sv := gsilent (.inr (by rw [hmiss]; omega))
      unfold Raised; rw [rest]
      exact hraised hlow hfirst
    · have before : t.sv = s.sv := hsilent (.inl (by omega))
      have raised := graised (by rw [hmiss]; omega) (by rw [hmiss]; omega)
      unfold Raised at raised ⊢
      rwa [before, hodo, hconf] at raised
  · rw [List.length_append] at hs
    refine (gsilent ?_).trans (hsilent ?_)
    · rw [hmiss]; omega
    · omega

/-- From `s` to `p` one beacon was marked MISSED with its penalty, and the count is not yet reported. -/
structure Penalised (b : BeaconAt) (s p : State) : Prop where
  pfu : p.pfu = { s.pfu with
    u := growBy s.pfu.u Config.missPenalty, miss := min (s.pfu.miss + 1) Config.missMax
    marks := s.pfu.marks ++ [⟨b.index, .missed⟩] }
  path : p.path = { s.path with marks := s.path.marks ++ [⟨⟨b.index, .missed⟩, false⟩] }
  sv : p.sv = s.sv
  blocks : p.power = s.power ∧ p.li = s.li ∧ p.aa = s.aa ∧ p.rw = s.rw ∧ p.odo = s.odo ∧ p.ss = s.ss ∧ p.ac = s.ac ∧
    p.ct = s.ct ∧ p.pending = s.pending

theorem Raised.of_same {c : FaultCode} {sub : Subject} (h : Raised c sub t u) (hsv : t.sv = s.sv) (hodo : t.odo = s.odo)
    (hconf : t.pfu.conf = s.pfu.conf) : Raised c sub s u := by
  unfold Raised at h ⊢
  rwa [hsv, hodo, hconf] at h

theorem Penalised.missed {p : State} {b : BeaconAt} (hp : Penalised b s p) (h : s.pfu.InRange) :
    Missed [b] s (beaconMissed p) := by
  have told := h.told
  have penalty : growBy s.pfu.u Config.missPenalty = min (s.pfu.u + 1 * 1000000) 65535000 := by
    unfold growBy Config.missPenalty Config.uncertaintyMax; omega
  obtain ⟨hpfu, hpath, hsv, hpower, hli, haa, hrw, hodo, hss, hac, hct, hpending⟩ := hp
  by_cases hone : s.pfu.miss = 1
  · have untold : s.pfu.missTold = false := Bool.eq_false_iff.2 fun ht => by have := told.1 ht; omega
    have reports : beaconMissed p = raiseFault .beaconMissed .none (p.setPfu { p.pfu with missTold := true }) := by
      refine if_pos ⟨?_, by rw [hpfu]; exact untold⟩
      rw [hpfu, hone]; exact Nat.le_refl 2
    have marked : true = decide (2 ≤ s.pfu.miss + 1) := (decide_eq_true (by omega)).symm
    have raised := raiseFault_raised .beaconMissed .none (p.setPfu { p.pfu with missTold := true })
    have orders := raiseFault_keeps .beaconMissed .none (p.setPfu { p.pfu with missTold := true })
    obtain ⟨rpower, rli, raa, rrw, rodo, rpfu, rss, rac, rct, rpath, rpending⟩ :=
      raiseFault_onlySv .beaconMissed .none (p.setPfu { p.pfu with missTold := true })
    rw [reports]
    generalize raiseFault .beaconMissed .none (p.setPfu { p.pfu with missTold := true }) = t at *
    refine ⟨?_, rpath.trans hpath, fun _ _ => raised.of_same hsv hodo (by rw [State.setPfu_pfu, hpfu]), fun hs => ?_,
      ⟨orders.1.trans (congrArg Sv.hold hsv), orders.2.trans (congrArg Sv.latch hsv)⟩, rpower.trans hpower, rli.trans hli,
      raa.trans haa, rrw.trans hrw, rodo.trans hodo, rss.trans hss, rac.trans hac, rct.trans hct, rpending.trans hpending⟩
    · rw [rpfu, State.setPfu_pfu, hpfu]
      simp only [List.length_singleton, ← marked, ← penalty]; rfl
    · simp only [List.length_singleton] at hs; omega
  · have silent : beaconMissed p = p := by
      refine if_neg fun ⟨hm, hf⟩ => ?_
      rw [hpfu] at hm hf
      have hm : 2 ≤ min (s.pfu.miss + 1) 255 := hm
      have ht : s.pfu.missTold = true := told.2 (by omega)
      exact Bool.false_ne_true (hf.symm.trans ht)
    have marked : s.pfu.missTold = decide (2 ≤ s.pfu.miss + 1) :=
      Bool.eq_iff_iff.2 (told.trans (by rw [decide_eq_true_iff]; omega))
    rw [silent]
    refine ⟨?_, hpath, fun hlow hhigh => ?_, fun _ => hsv, ⟨congrArg Sv.hold hsv, congrArg Sv.latch hsv⟩, hpower, hli, haa, hrw,
      hodo, hss, hac, hct, hpending⟩
    · rw [hpfu]
      simp only [List.length_singleton, ← marked, ← penalty]; rfl
    · simp only [List.length_singleton] at hhigh; omega

theorem sent_rest (v v' : Pfu) (w : Path) (s : State) : let p := ((s.setPfu v).setPath w).setPfu v'
    p.sv = s.sv ∧ p.power = s.power ∧ p.li = s.li ∧ p.aa = s.aa ∧ p.rw = s.rw ∧ p.odo = s.odo ∧ p.ss = s.ss ∧ p.ac = s.ac ∧
      p.ct = s.ct ∧ p.pending = s.pending := ⟨rfl, rfl, rfl, rfl, rfl, rfl, rfl, rfl, rfl, rfl⟩

theorem missBeacon_missed (h : s.pfu.InRange) (b : BeaconAt) : Missed [b] s (missBeacon s b) := by
  unfold missBeacon sendMark
  obtain ⟨hsv, hrest⟩ := sent_rest { s.pfu with marks := s.pfu.marks ++ [⟨b.index, .missed⟩] } { s.pfu with
    u := growBy s.pfu.u Config.missPenalty, miss := min (s.pfu.miss + 1) Config.missMax
    marks := s.pfu.marks ++ [⟨b.index, .missed⟩] } { s.path with marks := s.path.marks ++ [⟨⟨b.index, .missed⟩, false⟩] } s
  exact Penalised.missed ⟨rfl, rfl, hsv, hrest⟩ h

theorem foldl_missBeacon_missed (h : s.pfu.InRange) (bs : List BeaconAt) : Missed bs s (bs.foldl missBeacon s) := by
  induction bs generalizing s with
  | nil => exact .nil h
  | cons b bs ih =>
    have first := missBeacon_missed h b
    exact first.trans (ih first.inRange)

/-! ### The confidence test, and what a report of the route leaves (R73) -/

/-- A report of the route leaves every active record but that of HORIZON_SHORTFALL. -/
theorem reportRoute_keeps_active {g : FaultRecord} (h : g ∈ s.sv.faults) (ha : g.active = true)
    (hc : g.code ≠ .horizonShortfall) : g ∈ (reportRoute s).sv.faults := by
  have hg : g.concerns .horizonShortfall .none = false := Bool.eq_false_iff.2 fun hcon => hc ((g.concerns_iff _ _).1 hcon).1
  have derived (t : State) (ht : g ∈ t.sv.faults) : g ∈ (derive t).sv.faults := by
    rw [derive_eq]
    split_ifs
    exacts [raiseFault_keeps_active (s := rederived t) ht ha hg, reportInactive_keeps_other (s := rederived t) ht hg, ht]
  unfold reportRoute
  split_ifs
  exacts [h, derived _ h]

/-- The state after the confidence test of a sample. -/
structure DriftTested (s t : State) : Prop where
  pfu : t.pfu = { s.pfu with conf := if s.pfu.conf = .placed ∧ s.ct.table.uMax * 1000 < s.pfu.u then .drifted else s.pfu.conf }
  active : ∀ f ∈ s.sv.faults, f.active = true → f.code ≠ .horizonShortfall → f ∈ t.sv.faults
  kept : t.pfu.conf = s.pfu.conf → t.sv = s.sv
  orders : KeepsOrders s t
  blocks : t.power = s.power ∧ t.li = s.li ∧ t.aa = s.aa ∧ t.rw = s.rw ∧ t.odo = s.odo ∧ t.ss = s.ss ∧ t.ac = s.ac ∧
    t.ct = s.ct ∧ t.path = s.path ∧ t.pending = s.pending

theorem driftTest_tested (s : State) : DriftTested s (driftTest s) := by
  unfold driftTest
  split_ifs with hd
  · have orders := reportRoute_keeps (s.setPfu { s.pfu with conf := .drifted })
    obtain ⟨h1, h2, h3, h4, h5, hpfu, h7, h8, h9, h10, h11⟩ := reportRoute_onlySv (s.setPfu { s.pfu with conf := .drifted })
    refine ⟨?_, fun f hf ha hc => reportRoute_keeps_active (s := s.setPfu _) hf ha hc, fun hc => ?_, orders, h1, h2, h3, h4, h5, h7,
      h8, h9, h10, h11⟩
    · rw [hpfu, if_pos hd]; rfl
    · rw [hpfu, hd.1] at hc; exact absurd hc nofun
  · exact ⟨by rw [if_neg hd], fun f hf _ _ => hf, fun _ => rfl, .refl s, rfl, rfl, rfl, rfl, rfl, rfl, rfl, rfl, rfl, rfl⟩

end Sys2Proof.Machine

/-! # Samples and telegrams at the Position Fix Unit -/

namespace Sys2Proof.Machine

variable {s t u : State}

/-! ### A position sample (R73 to R78) -/

/-- The uncertainty that a sample leaves, before any penalty (R75). -/
def grownBy (sample : Sample) (s : State) : Nat :=
  growBy s.pfu.u (growth sample.quality sample.d s.ct.table.drift s.odo.lastInterval)

theorem grownBy_eq (sample : Sample) (s : State) : grownBy sample s = min (s.pfu.u + match sample.quality with
    | .agreed => sample.d.natAbs * s.ct.table.drift / 1000
    | .single => 2 * (sample.d.natAbs * s.ct.table.drift / 1000)
    | .reference => 2 * (sample.d.natAbs * s.ct.table.drift / 1000)
    | .none => 2 * s.odo.lastInterval * 1000) 65535000 := by
  unfold grownBy growBy growth Config.uncertaintyMax
  cases sample.quality <;> rfl

/-- The beacons that a sample finds missed, from rear to front (R77). -/
def missedBy (sample : Sample) (s : State) : List BeaconAt :=
  (beaconsSeen s).filter fun b => b.status == .pending &&
    decide ((b.distance : Int) + ((grownBy sample s / 1000 + 500 : Nat) : Int) < readerPosition s (sample.r / 1000))

theorem pfuHandles_eq (sample : Sample) (s : State) : pfuHandles sample s =
    driftTest ((missedBy sample s).foldl missBeacon (s.setPfu { s.pfu with u := grownBy sample s })) := rfl

theorem pfuHandles_handled (h : s.pfu.InRange) (sample : Sample) : ∃ m,
    Missed (missedBy sample s) (s.setPfu { s.pfu with u := grownBy sample s }) m ∧ DriftTested m (pfuHandles sample s) := by
  have grown : ({ s.pfu with u := grownBy sample s } : Pfu).InRange := ⟨h.told, growBy_le _ _, h.miss⟩
  rw [pfuHandles_eq]
  exact ⟨_, foldl_missBeacon_missed (s := s.setPfu { s.pfu with u := grownBy sample s }) grown _, driftTest_tested _⟩

theorem readerPosition_eq (s : State) (rRef : Nat) : readerPosition s rRef =
    if s.rw.lead = .a then (rRef : Int) + s.ct.table.readerOffset else (rRef : Int) - s.ct.table.readerOffset := by
  unfold readerPosition alongRoute
  cases s.rw.lead <;> rfl

/-- What a sample does to the Position Fix Unit that has a position: the uncertainty grown and these beacons
missed. -/
structure Handled (grown : Nat) (missed : List BeaconAt) (s t : State) : Prop where
  pfu : t.pfu = { s.pfu with
    u := min (grown + missed.length * 1000000) 65535000
    miss := min (s.pfu.miss + missed.length) 255
    missTold := decide (2 ≤ s.pfu.miss + missed.length)
    marks := s.pfu.marks ++ missed.map fun b => ⟨b.index, .missed⟩
    conf := if s.pfu.conf = .placed ∧
        s.ct.table.uMax * 1000 < min (grown + missed.length * 1000000) 65535000 then .drifted
      else s.pfu.conf }
  path : t.path = { s.path with marks := s.path.marks ++ missed.map fun b => ⟨⟨b.index, .missed⟩, false⟩ }
  raised : s.pfu.miss < 2 → 2 ≤ s.pfu.miss + missed.length → Raised .beaconMissed .none s t
  kept : (s.pfu.miss + missed.length < 2 ∨ 2 ≤ s.pfu.miss) → t.pfu.conf = s.pfu.conf → t.sv = s.sv
  orders : KeepsOrders s t
  blocks : t.power = s.power ∧ t.li = s.li ∧ t.aa = s.aa ∧ t.rw = s.rw ∧ t.odo = s.odo ∧ t.ss = s.ss ∧ t.ac = s.ac ∧
    t.ct = s.ct ∧ t.pending = s.pending

theorem Missed.handled {m : State} {grown : Nat} {bs : List BeaconAt}
    (h : Missed bs (s.setPfu { s.pfu with u := grown }) m) (h' : DriftTested m t) :
    Handled grown bs s t := by
  obtain ⟨mpfu, mpath, mraised, msilent, morders, h1, h2, h3, h4, modo, h6, h7, mct, h9⟩ := h
  obtain ⟨tpfu, tactive, tkept, torders, g1, g2, g3, g4, todo, g6, g7, tct, tpath, g9⟩ := h'
  have mct : m.ct = s.ct := mct
  have conf : m.pfu.conf = s.pfu.conf := by rw [mpfu]; rfl
  refine ⟨?_, tpath.trans mpath, fun hl hh hroom => ?_, fun hs hc => (tkept (hc.trans conf.symm)).trans (msilent hs), morders.trans torders,
    g1.trans h1, g2.trans h2, g3.trans h3, g4.trans h4, todo.trans modo, g6.trans h6, g7.trans h7, tct.trans mct, g9.trans h9⟩
  · rw [tpfu, conf, mct, mpfu]; rfl
  · obtain ⟨f, hmem, hcode, hsub, hact, hframe, hdist⟩ := mraised hl hh hroom
    exact ⟨f, tactive f hmem hact (by rw [hcode]; exact nofun), hcode, hsub, hact, hframe, hdist⟩

/-- Settles O46. -/
theorem sampleAtPositionFix : Obligations.SampleAtPositionFix := by
  intro s hon hrange
  obtain ⟨-, hp, -⟩ := RangeInv_iff.1 hrange
  refine ⟨fun h => exec_event_eq hon (by unfold sampleAtPfu; rw [h]) rfl, fun sample rest h hc => exec_event_eq hon ?_ rfl,
    fun sample rest h hc => ?_, exec_event_eq hon (if_neg fun ⟨hm, hf⟩ => ?_) rfl, fun n hn => ?_⟩
  · unfold sampleAtPfu; rw [h]
    dsimp only
    rw [if_pos (by exact hc)]; rfl
  · intro travelled grown reader seen missed marks
    have hgrown : grown = grownBy sample s := (grownBy_eq sample s).symm
    have hmissed : missed = missedBy sample s := by
      have hseen : seen = beaconsSeen s := (beaconsSeen_eq s).symm
      have hreader : reader = readerPosition s (sample.r / 1000) := (readerPosition_eq s _).symm
      unfold missedBy
      rw [← hgrown, ← hseen, ← hreader]
    have handled : Handled grown missed (s.setPath { s.path with atPfu := rest })
        (pfuHandles sample (s.setPath { s.path with atPfu := rest })) := by
      obtain ⟨m, h1, h2⟩ := pfuHandles_handled (s := s.setPath { s.path with atPfu := rest }) hp sample
      rw [hgrown, hmissed]
      exact h1.handled h2
    have taken : sampleAtPfu s = (pfuHandles sample (s.setPath { s.path with atPfu := rest })).setPath
        { (pfuHandles sample (s.setPath { s.path with atPfu := rest })).path with
          atRw := (pfuHandles sample (s.setPath { s.path with atPfu := rest })).path.atRw ++ [sample] } := by
      unfold sampleAtPfu; rw [h]
      dsimp only
      rw [if_neg (by exact hc)]
    refine ⟨_, exec_event_eq hon taken rfl, ?_⟩
    generalize pfuHandles sample (s.setPath { s.path with atPfu := rest }) = t at *
    obtain ⟨hpfu, hpath, hraised, hkept, horders, hpower, hli, haa, hrw, hodo, hss, hac, hct, hpending⟩ := handled
    refine ⟨hpfu, ?_, hraised, fun hs hsame => ?_, horders, hpower.trans hon, hli, haa, hrw, hodo, hss, hac, hct, hpending⟩
    · show { t.path with atRw := t.path.atRw ++ [sample] } = _
      rw [hpath]
      simp only [marks, List.map_map]; rfl
    · have same : t.sv = s.sv := hkept hs hsame
      exact ⟨congrArg Sv.faults same, congrArg Sv.listFull same, congrArg Sv.notice same⟩
  · exact ⟨exec_event_eq hon (if_pos ⟨hn, rfl⟩) rfl, exec_event_eq hon (if_neg fun hnot => absurd hnot.2 nofun) rfl⟩
  · have told : s.pfu.missTold = true := hp.told.2 hm
    exact Bool.false_ne_true (hf.symm.trans told)

end Sys2Proof.Machine

/-! # Beacon telegrams (R79 to R83) -/

namespace Sys2Proof.Machine

variable {s t u : State}

/-! ### The nearest beacon (R80) -/

/-- The distance of a beacon from the reader. -/
def BeaconAt.away (reader : Int) (b : BeaconAt) : Nat := ((b.distance : Int) - reader).natAbs

theorem nearest_none {reader : Int} {bs : List BeaconAt} (h : nearest reader bs = none) : bs = [] := by
  cases bs with
  | nil => rfl
  | cons b bs =>
    unfold nearest at h
    cases hn : nearest reader bs with
    | none => rw [hn] at h; exact absurd h nofun
    | some c =>
      rw [hn] at h
      dsimp only at h
      split_ifs at h

/-- Of beacons from rear to front the nearest is in the list and no other is nearer, nor as near and further to the rear. -/
theorem nearest_spec {reader : Int} {bs : List BeaconAt} {c : BeaconAt}
    (hs : bs.Pairwise fun b b' => b.distance < b'.distance) (h : nearest reader bs = some c) :
    c ∈ bs ∧ ∀ b ∈ bs, c.away reader < b.away reader ∨ c.away reader = b.away reader ∧ c.distance ≤ b.distance := by
  induction bs generalizing c with
  | nil => exact absurd h nofun
  | cons b bs ih =>
    obtain ⟨hb, hs⟩ := List.pairwise_cons.1 hs
    unfold nearest at h
    cases hn : nearest reader bs with
    | none =>
      rw [hn] at h
      obtain rfl : b = c := Option.some.inj h
      rw [nearest_none hn]
      refine ⟨List.mem_singleton_self b, fun d hd => ?_⟩
      rw [List.mem_singleton.1 hd]
      exact .inr ⟨rfl, Nat.le_refl _⟩
    | some e =>
      obtain ⟨hmem, hleast⟩ := ih hs hn
      rw [hn] at h
      dsimp only at h
      split_ifs at h with hnear
      · obtain rfl : e = c := Option.some.inj h
        refine ⟨List.mem_cons_of_mem b hmem, fun d hd => ?_⟩
        obtain rfl | hd := List.mem_cons.1 hd
        exacts [.inl hnear, hleast d hd]
      · obtain rfl : b = c := Option.some.inj h
        have hnear : b.away reader ≤ e.away reader := Nat.le_of_not_lt hnear
        refine ⟨List.mem_cons_self, fun d hd => ?_⟩
        obtain rfl | hd := List.mem_cons.1 hd
        · exact .inr ⟨rfl, Nat.le_refl _⟩
        · have hbd := hb d hd
          have hed := hleast d hd
          omega

/-- The one beacon that is nearer than all others, or as near and further to the rear, is the nearest. -/
theorem nearest_eq {reader : Int} {bs : List BeaconAt} {b : BeaconAt} (hs : bs.Pairwise fun b b' => b.distance < b'.distance)
    (hb : b ∈ bs) (hleast : ∀ b' ∈ bs, b' ≠ b → b.away reader < b'.away reader ∨
      (b.away reader = b'.away reader ∧ b.distance < b'.distance)) : nearest reader bs = some b := by
  cases hn : nearest reader bs with
  | none => rw [nearest_none hn] at hb; exact absurd hb nofun
  | some c =>
    obtain ⟨hc, hall⟩ := nearest_spec hs hn
    by_contra hne
    have first := hleast c hc fun h => hne (h ▸ rfl)
    have second := hall b hb
    omega

/-! ### The beacons of a well-formed window stand from rear to front (R4, R5) -/

theorem beaconsFrom_sorted {segs : List Segment} (h : ∀ g ∈ segs, Segment.Valid g) (start : Nat) :
    (beaconsFrom start segs).Pairwise (fun b b' => b.distance < b'.distance) ∧
      ∀ b ∈ beaconsFrom start segs, start ≤ b.distance := by
  induction segs generalizing start with
  | nil => exact ⟨.nil, nofun⟩
  | cons g segs ih =>
    obtain ⟨hs, hle⟩ := ih (fun g' hg => h g' (List.mem_cons_of_mem g hg)) (start + g.length)
    obtain ⟨-, -, -, -, hbeacon⟩ := h g List.mem_cons_self
    unfold beaconsFrom
    cases hb : g.beacon with
    | none => exact ⟨hs, fun b hb => Nat.le_trans (Nat.le_add_right _ _) (hle b hb)⟩
    | some b =>
      rw [hb] at hbeacon
      obtain ⟨-, -, hoff⟩ := hbeacon
      refine ⟨List.pairwise_cons.2 ⟨fun b' hb' => ?_, hs⟩, fun b' hb' => ?_⟩
      · have := hle b' hb'
        show start + b.offset < b'.distance
        omega
      · obtain rfl | hb' := List.mem_cons.1 hb'
        · exact Nat.le_add_right _ _
        · have := hle b' hb'
          omega

theorem beaconsSeen_sorted (h : WindowInv s) : (beaconsSeen s).Pairwise fun b b' => b.distance < b'.distance := by
  obtain ⟨-, hvalid, -⟩ := h
  unfold beaconsSeen Rw.beacons
  split_ifs
  · exact List.pairwise_map.2 (beaconsFrom_sorted hvalid _).1
  · exact .nil

/-! ### What a telegram does -/

/-- A beacon seen with this ID and status within this distance of the reader. -/
def near (reader : Int) (bound : Nat) (st : BeaconStatus) (b : BeaconAt) : Bool :=
  b.status == st && b.away reader ≤ bound

theorem near_iff {reader : Int} {bound : Nat} {st : BeaconStatus} {b : BeaconAt} :
    near reader bound st b = true ↔ b.status = st ∧ b.away reader ≤ bound := by simp [near]

/-- The beacons that a telegram may match (R79). -/
def candidates (id : Nat) (reader : Int) (s : State) : List BeaconAt :=
  ((beaconsSeen s).filter fun b => b.id == id).filter (near reader (s.pfu.u / 1000 + 500) .pending)

theorem beaconTelegram_eq {id : Nat} (h : s.pfu.conf ≠ .unplaced) : beaconTelegram id true s =
    match nearest (readerPosition s (s.odo.r / 1000)) (candidates id (readerPosition s (s.odo.r / 1000)) s) with
    | some b => matchBeacon (readerPosition s (s.odo.r / 1000)) b s
    | none =>
      if ((beaconsSeen s).filter fun b => b.id == id).any (near (readerPosition s (s.odo.r / 1000)) 5000 .matched) then s
      else if ((beaconsSeen s).filter fun b => b.id == id).isEmpty then s
      else conflict s := by
  unfold beaconTelegram
  have open_ : ¬(!true || s.pfu.conf == .unplaced) = true := by simp [h]
  rw [if_neg open_]
  rfl

/-- What a match sets: the position fix, the mark sent and the correction (R80). -/
structure Fixed (reader : Int) (b : BeaconAt) (s t : State) : Prop where
  pfu : t.pfu = { conf := .placed, u := s.ct.table.uFix * 1000, miss := 0, missTold := false,
                  lastCorrection := some ((b.distance : Int) - reader), marks := s.pfu.marks ++ [⟨b.index, .matched⟩] }
  path : t.path = { s.path with marks := s.path.marks ++ [⟨⟨b.index, .matched⟩, false⟩],
                                corrections := s.path.corrections ++ [⟨(b.distance : Int) - reader, false⟩] }
  orders : KeepsOrders s t
  blocks : t.power = s.power ∧ t.li = s.li ∧ t.aa = s.aa ∧ t.rw = s.rw ∧ t.odo = s.odo ∧ t.ss = s.ss ∧ t.ac = s.ac ∧
    t.ct = s.ct ∧ t.pending = s.pending

theorem Fixed.only {reader : Int} {b : BeaconAt} (h : Fixed reader b s t) (hu : OnlySv t u) (ho : KeepsOrders t u) :
    Fixed reader b s u := by
  obtain ⟨h1, h2, h3, h4, h5, h6, h7, h8, h9, h10, h11⟩ := hu
  obtain ⟨hpfu, hpath, horders, g1, g2, g3, g4, g5, g7, g8, g9, g11⟩ := h
  exact ⟨h6.trans hpfu, h10.trans hpath, horders.trans ho, h1.trans g1, h2.trans g2, h3.trans g3, h4.trans g4, h5.trans g5,
    h7.trans g7, h8.trans g8, h9.trans g9, h11.trans g11⟩

theorem Fixed.inactive {reader : Int} {b : BeaconAt} (h : Fixed reader b s t) (c : FaultCode) (sub : Subject) :
    Fixed reader b s (reportInactive c sub t) := h.only (reportInactive_onlySv c sub t) (reportInactive_keeps c sub t)

/-- The vehicle placed by a match, nothing yet reported. -/
def fixing (reader : Int) (b : BeaconAt) (s : State) : State :=
  { s with
    pfu := { conf := .placed, u := s.ct.table.uFix * 1000, miss := 0, missTold := false,
             lastCorrection := some ((b.distance : Int) - reader), marks := s.pfu.marks ++ [⟨b.index, .matched⟩] }
    path := { s.path with marks := s.path.marks ++ [⟨⟨b.index, .matched⟩, false⟩],
                          corrections := s.path.corrections ++ [⟨(b.distance : Int) - reader, false⟩] } }

theorem fixing_fixed (reader : Int) (b : BeaconAt) (s : State) : Fixed reader b s (fixing reader b s) :=
  ⟨rfl, rfl, ⟨rfl, rfl⟩, rfl, rfl, rfl, rfl, rfl, rfl, rfl, rfl, rfl⟩

theorem matchBeacon_eq (reader : Int) (b : BeaconAt) (s : State) : matchBeacon reader b s =
    reportRoute (reportInactive .positionConflict .none
      (if 2 ≤ s.pfu.miss then reportInactive .beaconMissed .none (fixing reader b s) else fixing reader b s)) := rfl

theorem matchBeacon_fixed (reader : Int) (b : BeaconAt) (s : State) : let t := matchBeacon reader b s
    Fixed reader b s t ∧ (∀ f ∈ t.sv.faults, f.code = .positionConflict → f.subject = .none → f.active = false) ∧
      (2 ≤ s.pfu.miss → ∀ f ∈ t.sv.faults, f.code = .beaconMissed → f.subject = .none → f.active = false) ∧
      t.sv.conf = .placed := by
  intro t
  have eq : t = _ := matchBeacon_eq reader b s
  have told : Fixed reader b s
      (if 2 ≤ s.pfu.miss then reportInactive .beaconMissed .none (fixing reader b s) else fixing reader b s) := by
    split_ifs
    exacts [(fixing_fixed reader b s).inactive _ _, fixing_fixed reader b s]
  have ended (hm : 2 ≤ s.pfu.miss) (f : FaultRecord) (hf : f ∈ (if 2 ≤ s.pfu.miss then
      reportInactive .beaconMissed .none (fixing reader b s) else fixing reader b s).sv.faults)
      (hc : f.code = .beaconMissed) (hs : f.subject = .none) : f.active = false := by
    rw [if_pos hm] at hf
    exact reportInactive_inactive hf hc hs
  generalize (if 2 ≤ s.pfu.miss then reportInactive .beaconMissed .none (fixing reader b s) else fixing reader b s) = u at *
  have placed := told.inactive .positionConflict .none
  rw [eq]
  refine ⟨placed.only (reportRoute_onlySv _) (reportRoute_keeps _), fun f hf hc hs => ?_, fun hm f hf hc hs => ?_, ?_⟩
  · exact reportInactive_inactive (reportRoute_mem hf (by rw [hc]; exact nofun)) hc hs
  · exact ended hm f (reportInactive_mem (reportRoute_mem hf (by rw [hc]; exact nofun)) (by rw [hc]; exact nofun)) hc hs
  · rw [(reportRoute_route _).2, placed.pfu]

/-- Settles O47. -/
theorem beaconTelegramMatchesRepeatsOrConflicts : Obligations.BeaconTelegramMatchesRepeatsOrConflicts := by
  intro id s hon hwin
  refine ⟨exec_event_eq hon rfl rfl, fun hc => exec_event_eq hon ?_ rfl, fun hc => ?_⟩
  · unfold beaconTelegram; rw [hc]; rfl
  · intro reader seen away candidate repeated
    have hseen : seen = beaconsSeen s := (beaconsSeen_eq s).symm
    have hreader : reader = readerPosition s (s.odo.r / 1000) := (readerPosition_eq s _).symm
    have eq := beaconTelegram_eq (id := id) hc
    rw [← hreader] at eq
    have hcand (b : BeaconAt) : b ∈ candidates id reader s ↔ candidate b := by
      unfold candidates
      rw [List.mem_filter, List.mem_filter, near_iff, ← hseen, beq_iff_eq, and_assoc]; rfl
    have empty (hnone : ∀ b, ¬candidate b) : nearest reader (candidates id reader s) = none := by
      rw [List.eq_nil_iff_forall_not_mem.2 fun b hb => hnone b ((hcand b).1 hb)]; rfl
    have hrep : ((beaconsSeen s).filter fun b => b.id == id).any (near reader 5000 .matched) = true ↔ repeated := by
      simp only [List.any_eq_true, List.mem_filter, near_iff, ← hseen, beq_iff_eq, and_assoc]; rfl
    refine ⟨fun b hb hleast => ?_, fun hnone hr => exec_event_eq hon ?_ rfl, fun hid => exec_event_eq hon ?_ rfl,
      fun hnone hr hid => exec_event_eq hon ?_ rfl⟩
    · have sorted : (candidates id reader s).Pairwise fun b b' => b.distance < b'.distance :=
        ((beaconsSeen_sorted hwin).filter _).filter _
      have found : nearest reader (candidates id reader s) = some b :=
        nearest_eq sorted ((hcand b).2 hb) fun b' hb' hne => hleast b' ((hcand b').1 hb') hne
      rw [found] at eq
      obtain ⟨⟨hpfu, hpath, horders, hpower, hrest⟩, hconflict, hmissed, hconf⟩ := matchBeacon_fixed reader b s
      exact ⟨_, exec_event_eq hon eq rfl, hpfu, hpath, hconflict, hmissed, hconf, horders, hpower.trans hon, hrest⟩
    · rw [eq, empty hnone, hrep.2 hr]; rfl
    · have nil : ((beaconsSeen s).filter fun b => b.id == id) = [] := by
        rw [List.filter_eq_nil_iff, ← hseen]
        exact fun b hb he => hid b hb (eq_of_beq he)
      rw [eq, candidates, nil]; rfl
    · have norep : (((beaconsSeen s).filter fun b => b.id == id).any (near reader 5000 .matched)) = false :=
        Bool.eq_false_iff.2 fun h => hr (hrep.1 h)
      have some_ : ((beaconsSeen s).filter fun b => b.id == id).isEmpty = false := by
        obtain ⟨b, hb, he⟩ := hid
        rw [hseen] at hb
        rw [List.isEmpty_eq_false_iff_exists_mem]
        exact ⟨b, List.mem_filter.2 ⟨hb, by rw [he]; exact beq_self_eq_true _⟩⟩
      rw [eq, empty hnone, norep, some_]; rfl

end Sys2Proof.Machine

/-! # A position sample at the Route Window (R9 to R13, R24) -/

namespace Sys2Proof.Machine

variable {s t : State}

/-! ### Least and greatest positions -/

theorem minimum_none {l : List Int} (h : minimum l = none) : l = [] := by
  cases l with
  | nil => rfl
  | cons x l => unfold minimum at h; cases hm : minimum l <;> rw [hm] at h <;> exact absurd h nofun

theorem le_minimum {l : List Int} {m b : Int} (h : minimum l = some m) : b ≤ m ↔ ∀ x ∈ l, b ≤ x := by
  induction l generalizing m with
  | nil => exact absurd h nofun
  | cons x l ih =>
    rw [List.forall_mem_cons]
    unfold minimum at h
    cases hm : minimum l with
    | none =>
      rw [hm] at h
      obtain rfl : x = m := Option.some.inj h
      rw [minimum_none hm]
      exact ⟨fun hb => ⟨hb, nofun⟩, And.left⟩
    | some y =>
      rw [hm] at h
      obtain rfl : min x y = m := Option.some.inj h
      rw [← ih hm, le_min_iff]

theorem maximum_none {l : List Int} (h : maximum l = none) : l = [] := by
  cases l with
  | nil => rfl
  | cons x l => unfold maximum at h; cases hm : maximum l <;> rw [hm] at h <;> exact absurd h nofun

theorem lt_maximum {l : List Int} {m b : Int} (h : maximum l = some m) : b < m ↔ ∃ x ∈ l, b < x := by
  induction l generalizing m with
  | nil => exact absurd h nofun
  | cons x l ih =>
    rw [List.exists_mem_cons_iff]
    unfold maximum at h
    cases hm : maximum l with
    | none =>
      rw [hm] at h
      obtain rfl : x = m := Option.some.inj h
      rw [maximum_none hm]
      exact ⟨.inl, fun hb => hb.elim id fun ⟨_, hx, _⟩ => absurd hx nofun⟩
    | some y =>
      rw [hm] at h
      obtain rfl : max x y = m := Option.some.inj h
      rw [← ih hm, lt_max_iff]

/-! ### Retirement (R11) -/

/-- Retirement drops the records whose ends are at or behind the bound, from the rear up to the first that is not. -/
theorem retireFrom_count (bound : Int) (rear : Nat) (l : List Segment) : ∃ n, n ≤ l.length ∧
    retireFrom bound rear l = (rear + totalLength (l.take n), l.drop n) ∧
    (∀ j, 0 < j → j ≤ n → ((rear + totalLength (l.take j) : Nat) : Int) ≤ bound) ∧
    (n < l.length → ¬((rear + totalLength (l.take (n + 1)) : Nat) : Int) ≤ bound) := by
  induction l generalizing rear with
  | nil => exact ⟨0, Nat.le_refl _, rfl, fun j h0 hn => by omega, nofun⟩
  | cons g l ih =>
    have total (j : Nat) : rear + totalLength ((g :: l).take (j + 1)) = rear + g.length + totalLength (l.take j) := by
      rw [List.take_succ_cons, totalLength, Nat.add_assoc]
    unfold retireFrom
    split_ifs with hg
    · obtain ⟨n, hn, heq, hall, hstop⟩ := ih (rear + g.length)
      refine ⟨n + 1, Nat.succ_le_succ hn, ?_, fun j h0 hj => ?_, fun hlt => ?_⟩
      · rw [heq, total, List.drop_succ_cons]
      · obtain ⟨j, rfl⟩ := Nat.exists_eq_succ_of_ne_zero (Nat.ne_of_gt h0)
        rw [Nat.succ_eq_add_one, total]
        rcases Nat.eq_zero_or_pos j with rfl | hpos
        · simpa [totalLength] using hg
        · exact hall j hpos (Nat.le_of_succ_le_succ hj)
      · rw [total]
        exact hstop (Nat.lt_of_succ_lt_succ hlt)
    · refine ⟨0, Nat.zero_le _, rfl, fun j h0 hn => by omega, fun _ => ?_⟩
      rw [total]
      simpa [totalLength] using hg

/-! ### Lookup (R9) -/

/-- The record found is the one at some place of the window, with its start, and covers the point. -/
theorem lookupFrom_place {start : Nat} {l : List Segment} {x : Int} {c : Covering} (h : lookupFrom start l x = some c) :
    (c.start : Int) ≤ x ∧ x < c.start + c.length ∧
      ∃ j g, l[j]? = some g ∧ g.length = c.length ∧ g.geo = c.geo ∧ c.start = start + totalLength (l.take j) := by
  induction l generalizing start with
  | nil => exact absurd h nofun
  | cons g l ih =>
    unfold lookupFrom at h
    split_ifs at h with hx
    · obtain rfl := Option.some.inj h
      exact ⟨hx.1, hx.2, 0, g, rfl, rfl, rfl, rfl⟩
    · obtain ⟨h1, h2, j, g', hg', hlen, hgeo, hstart⟩ := ih h
      exact ⟨h1, h2, j + 1, g', hg', hlen, hgeo, by rw [hstart, List.take_succ_cons, totalLength, Nat.add_assoc]⟩

/-- A point that no record covers lies behind the rear or at or beyond the front. -/
theorem lookupFrom_none {start : Nat} {l : List Segment} {x : Int} (h : lookupFrom start l x = none) :
    x < start ∨ ((start + totalLength l : Nat) : Int) ≤ x := by
  induction l generalizing start with
  | nil => exact (lt_or_ge x start).imp id fun hx => hx
  | cons g l ih =>
    unfold lookupFrom at h
    split_ifs at h with hx
    have rest := ih h
    rw [totalLength]
    omega

/-! ### The hand-over -/

theorem fittedChannels_forall {p : Chan → Prop} : (∀ k ∈ fittedChannels s, p k) ↔ ∀ k, fitted s k = true → p k := by
  simp [fittedChannels, Chan.mem_all]

theorem fittedChannels_exists {p : Chan → Prop} : (∃ k ∈ fittedChannels s, p k) ↔ ∃ k, fitted s k = true ∧ p k := by
  simp [fittedChannels, Chan.mem_all]

/-- The first records of the window lie wholly behind the rearmost fitted wheelset by the retention distance (R11). -/
def Behind (sample : Sample) (s : State) (n : Nat) : Prop :=
  (∃ k, fitted s k = true) ∧ ∀ k, fitted s k = true →
    ((s.rw.rear + totalLength (s.rw.segs.take n) : Nat) : Int) ≤ wheelPosition s sample k - s.ct.table.retention

/-- The window after retirement, by the number of records retired (R11). -/
theorem retired_count (s : State) (sample : Sample) : ∃ n, n ≤ s.rw.segs.length ∧
    (∀ j, 0 < j → j ≤ n → Behind sample s j) ∧ (n < s.rw.segs.length → ¬Behind sample s (n + 1)) ∧
    retired s sample = { s.rw with rear := s.rw.rear + totalLength (s.rw.segs.take n), segs := s.rw.segs.drop n } := by
  unfold retired
  cases hm : minimum ((fittedChannels s).map (wheelPosition s sample)) with
  | none =>
    have empty : fittedChannels s = [] := List.map_eq_nil_iff.1 (minimum_none hm)
    refine ⟨0, Nat.zero_le _, fun j h0 hn => by omega, fun _ ⟨⟨k, hk⟩, _⟩ => ?_, rfl⟩
    exact (fittedChannels_forall (p := fun _ => False)).1 (by rw [empty]; exact nofun) k hk
  | some pMin =>
    have some_ : ∃ k, fitted s k = true := by
      cases hc : fittedChannels s with
      | nil => rw [hc] at hm; exact absurd hm nofun
      | cons k ks =>
        obtain ⟨j, hj, -⟩ := fittedChannels_exists.1 (⟨k, by rw [hc]; exact List.mem_cons_self, trivial⟩ :
          ∃ k ∈ fittedChannels s, True)
        exact ⟨j, hj⟩
    have hbehind (n : Nat) : Behind sample s n ↔
        ((s.rw.rear + totalLength (s.rw.segs.take n) : Nat) : Int) ≤ pMin - s.ct.table.retention := by
      have least := le_minimum (b := ((s.rw.rear + totalLength (s.rw.segs.take n) : Nat) : Int) + s.ct.table.retention) hm
      rw [List.forall_mem_map, fittedChannels_forall] at least
      refine Iff.trans ⟨fun h => h.2, fun h => ⟨some_, h⟩⟩ ?_
      simp only [le_sub_iff_add_le]
      exact least.symm
    obtain ⟨n, hn, heq, hall, hstop⟩ := retireFrom_count (pMin - s.ct.table.retention) s.rw.rear s.rw.segs
    exact ⟨n, hn, fun j h0 hj => (hbehind j).2 (hall j h0 hj), fun hlt h => hstop hlt ((hbehind _).1 h), by simp only [heq]⟩

/-- The horizon notice (R13). -/
theorem horizonTest_iff (sample : Sample) (s : State) (rw : Rw) :
    (s.ct.table.horizonCond = .shortDistance →
      (horizonTest s.ct.table rw ((fittedChannels s).map (lookPoint s sample)) = true ↔
        ∃ k, fitted s k = true ∧ (rw.front : Int) - lookPoint s sample k < s.ct.table.horizonWarning)) ∧
    (s.ct.table.horizonCond = .freeSpace →
      (horizonTest s.ct.table rw ((fittedChannels s).map (lookPoint s sample)) = true ↔
        s.ct.table.freeThreshold ≤ 48 - rw.segs.length)) := by
  unfold horizonTest
  refine ⟨fun h => ?_, fun h => ?_⟩
  · rw [h]
    dsimp only
    rw [← fittedChannels_exists]
    cases hm : maximum ((fittedChannels s).map (lookPoint s sample)) with
    | none =>
      rw [List.map_eq_nil_iff.1 (maximum_none hm)]
      simp
    | some q =>
      have most := lt_maximum (b := (rw.front : Int) - s.ct.table.horizonWarning) hm
      simp only [List.mem_map, exists_exists_and_eq_and] at most
      rw [decide_eq_true_iff, sub_lt_comm, most]
      simp only [sub_lt_comm]
  · rw [h]
    exact decide_eq_true_iff

theorem wheelPosition_eq (s : State) (sample : Sample) (k : Chan) : wheelPosition s sample k =
    if s.rw.lead = .a then ((sample.r / 1000 : Nat) : Int) + (s.ct.table.chan.get k).offset
    else ((sample.r / 1000 : Nat) : Int) - (s.ct.table.chan.get k).offset := by
  unfold wheelPosition alongRoute
  cases s.rw.lead <;> rfl

/-- Settles O48. -/
theorem sampleAtRouteWindow : Obligations.SampleAtRouteWindow := by
  intro s hon
  refine ⟨fun h => exec_event_eq hon (by unfold sampleAtRw; rw [h]) rfl, fun sample rest h ho => exec_event_eq hon ?_ rfl,
    fun sample rest h ho => ?_⟩
  · unfold sampleAtRw windowTakes; rw [h]
    dsimp only
    rw [if_neg (by exact ho ▸ nofun)]
    rfl
  · intro p q ends behind
    have hp (k : Chan) : p k = wheelPosition s sample k := (wheelPosition_eq s sample k).symm
    have hq (k : Chan) : q k = lookPoint s sample k := by
      show p k + _ = _
      rw [hp]; rfl
    obtain ⟨n, hn, hall, hstop, hret⟩ := retired_count s sample
    have taken : sampleAtRw s = ((s.setPath { s.path with atRw := rest }).setRw { retired s sample with
        horizonLow := horizonTest s.ct.table (retired s sample) ((fittedChannels s).map (lookPoint s sample)) }).setPath
        { s.path with atRw := rest, atSs := s.path.atSs ++ [⟨sample, Quad.build (handEntry s (retired s sample) sample)⟩] } := by
      unfold sampleAtRw windowTakes; rw [h]
      dsimp only
      rw [if_pos (by exact ho)]
      rfl
    have hbehind (j : Nat) : behind j ↔ Behind sample s j := by
      refine and_congr .rfl (forall_congr' fun k => imp_congr_right fun _ => ?_)
      rw [← hp]
    obtain ⟨short, free⟩ := horizonTest_iff sample s (retired s sample)
    refine ⟨_, n, exec_event_eq hon taken rfl, hn, fun j h0 hj => (hbehind j).2 (hall j h0 hj),
      fun hlt hb => hstop hlt ((hbehind _).1 hb), ?_⟩
    have hrw : (retired s sample).isOpen = true := by rw [hret]; exact ho
    rw [hret] at short free hrw ⊢
    generalize s.rw.rear + totalLength (s.rw.segs.take n) = rear at *
    generalize s.rw.segs.drop n = segs at *
    refine ⟨rfl, rfl, rfl, rfl, rfl, ho, fun hc => (short hc).trans (exists_congr fun k => by rw [hq]), fun hc => free hc,
      ⟨_, rfl, fun k => ⟨fun hf => ?_, fun hf => ?_⟩⟩, hon, rfl, rfl, rfl, rfl, rfl, rfl, rfl, rfl, rfl⟩
    · rw [Quad.get_build, handEntry, if_neg (by rw [hf]; exact nofun)]
    · refine ⟨_, _, by rw [Quad.get_build, handEntry, if_pos hf, ← hp, ← hq], fun x c hx => ?_⟩
      have found : lookupFrom rear segs x = c := by
        obtain ⟨rfl, rfl⟩ | ⟨rfl, rfl⟩ := hx <;> exact (if_pos ho).symm
      refine ⟨?_, fun hnone => lookupFrom_none (found.trans hnone)⟩
      rintro a len geo rfl
      exact lookupFrom_place found

end Sys2Proof.Machine

/-! # A channel's change and its partner; the sensor changes (R92, R100, R101, R105, R109, R113, R115, R116, R118) -/

namespace Sys2Proof.Machine

variable {s t : State} {k : Chan} {ch : Channel}

/-! ### A change that sends no order to the partner (R129) -/

/-- A change of channel k's record to `ch` finds no partner to order: it calls for no order, or the partner is in no
released state. -/
def Solitary (k : Chan) (ch : Channel) (s : State) : Prop :=
  OrdersPartner (s.ac.get k) ch → (s.ac.get k.partner).state.released = false

theorem Solitary.of_same (hs : (s.ac.get k).state = ch.state) (hm : (s.ac.get k).mark = ch.mark) : Solitary k ch s :=
  fun h => absurd ⟨hs, hm⟩ h.1

theorem Solitary.of_quiet (h : callsPartnerRule ch = false) : Solitary k ch s :=
  fun ho => absurd (h.symm.trans ho.2) nofun

/-- The partner of a channel that called for centring before is in no released state (R130). -/
theorem Solitary.of_calling (hb : BogieInv s) (h : callsPartnerRule (s.ac.get k) = true) : Solitary k ch s :=
  fun _ => hb.1 k h

theorem commit_ac_solitary {st : ChanStep} (hl : st.faults.contains .lockFail = false) (h : Solitary k st.ch s) :
    (commit k st s).ac = s.ac.set k st.ch := by
  rw [commit_ac k st s hl, if_neg]
  exact fun ⟨hn, hc, hr⟩ => Bool.false_ne_true ((h ⟨hn, hc⟩).symm.trans hr)

/-- The command is taken by channel k alone: its record is the new one, the orders stand, and no other block changes. -/
def Takes (c : Instr) (k : Chan) (ch : Channel) (s : State) : Prop :=
  ∃ t, exec c s = .next t ∧ OnlyAcSv s t ∧ KeepsOrders s t ∧ t.ac = s.ac.set k ch

theorem commit_takes {c : Instr} (h : exec c s = .next (commit k ⟨ch, []⟩ s)) (hs : Solitary k ch s) : Takes c k ch s :=
  ⟨_, h, commit_onlyAcSv k ⟨ch, []⟩ s, commit_keepsOrders k ch s, commit_ac_solitary rfl hs⟩

/-! ### A change that raises one fault (R119, R129) -/

theorem derive_keeps_active {g : FaultRecord} (h : g ∈ s.sv.faults) (ha : g.active = true)
    (hc : g.code ≠ .horizonShortfall) : g ∈ (derive s).sv.faults := by
  have hg : g.concerns .horizonShortfall .none = false := Bool.eq_false_iff.2 fun hcon => hc ((g.concerns_iff _ _).1 hcon).1
  rw [derive_eq]
  split_ifs
  exacts [raiseFault_keeps_active (s := rederived s) h ha hg, reportInactive_keeps_other (s := rederived s) h hg, h]

theorem reportState_keeps_active {g : FaultRecord} (h : g ∈ s.sv.faults) (ha : g.active = true)
    (hc : g.code ≠ .horizonShortfall) (k : Chan) : g ∈ (reportState k s).sv.faults := by
  unfold reportState; dsimp only; split_ifs
  exacts [h, derive_keeps_active h ha hc]

theorem centringOrder_keeps_active {g : FaultRecord} (h : g ∈ s.sv.faults) (ha : g.active = true)
    (hc : g.code ≠ .horizonShortfall) (k : Chan) : g ∈ (centringOrder k s).sv.faults := by
  unfold centringOrder; dsimp only; split_ifs
  exacts [reportState_keeps_active (s := putChannel k _ s) h ha hc k, h]

theorem reportChange_keeps_active {g : FaultRecord} (h : g ∈ s.sv.faults) (ha : g.active = true)
    (hc : g.code ≠ .horizonShortfall) (k : Chan) (before : Channel) : g ∈ (reportChange k before s).sv.faults := by
  unfold reportChange; dsimp only; split_ifs
  exacts [h, centringOrder_keeps_active (reportState_keeps_active h ha hc k) ha hc _, reportState_keeps_active h ha hc k]

/-- A committed change with one fault records it (R119, R199). -/
theorem commit_raised {c : FaultCode} (hl : c ≠ .lockFail) (hh : c ≠ .horizonShortfall) :
    Raised c (.chan k) s (commit k ⟨ch, [c]⟩ s) := by
  intro hroom
  obtain ⟨f, hmem, hcode, hrest⟩ := raiseFault_raised c (.chan k) s hroom
  refine ⟨f, ?_, hcode, hrest⟩
  unfold commit
  rw [if_neg (by simp [hl.symm])]
  exact reportChange_keeps_active (s := putChannel k ch (raiseFault c (.chan k) s)) hmem hrest.2.1 (hcode ▸ hh) k _

theorem commit_fault_keepsOrders {c : FaultCode} (hl : c ≠ .lockFail) : KeepsOrders s (commit k ⟨ch, [c]⟩ s) := by
  obtain ⟨hhold, hlatch⟩ := commit_orders k ⟨ch, [c]⟩ s
  exact ⟨hhold, hlatch.trans (by simp [hl.symm])⟩

/-- A committed change with a fault but LOCK_FAIL that changes the state to one that calls for the partner rule: the
released partner is ordered to centre, and no other channel changes (R129). -/
theorem commit_fault_get {c : FaultCode} (hl : c ≠ .lockFail) (ho : OrdersPartner (s.ac.get k) ch) :
    (commit k ⟨ch, [c]⟩ s).ac.get k = ch ∧
      ((commit k ⟨ch, [c]⟩ s).ac.get k.partner =
        if (s.ac.get k.partner).state.released = true then (s.ac.get k.partner).toCentring false
        else s.ac.get k.partner) ∧
      ∀ j, j ≠ k → j ≠ k.partner → (commit k ⟨ch, [c]⟩ s).ac.get j = s.ac.get j := by
  have contains : ([c] : List FaultCode).contains .lockFail = false := by simp [hl.symm]
  refine ⟨commit_get_self k ⟨ch, [c]⟩ s contains, ?_, fun j hk hp => ?_⟩
  all_goals rw [commit_ac k ⟨ch, [c]⟩ s contains]
  · by_cases hr : (s.ac.get k.partner).state.released = true
    · rw [if_pos ⟨ho.1, ho.2, hr⟩, if_pos hr, Quad.get_set_self]
    · rw [if_neg fun h => hr h.2.2, if_neg hr, Quad.get_set_ne _ _ (Chan.partner_ne k)]
  · split_ifs
    · rw [Quad.get_set_ne _ _ hp, Quad.get_set_ne _ _ hk]
    · rw [Quad.get_set_ne _ _ hk]

/-! ### Sensor changes -/

theorem decodeContact_eq (x y : Bool) :
    decodeContact x y = if x = y then .between else if x = true then .engaged else .released := by
  cases x <;> cases y <;> rfl

theorem decodeCentre_eq (x y : Bool) :
    decodeCentre x y = if x = y then .centre else if x = true then .left else .right := by
  cases x <;> cases y <;> rfl

theorem exec_lockContact_same {x y : Bool} (hon : s.power = .on) (h : decodeContact x y = (s.ac.get k).contact) :
    exec (.lockContactChange k x y) s = .next s :=
  exec_event_eq (f := lockContactChange k x y) hon (if_pos h)

theorem exec_lockContact {x y : Bool} (hon : s.power = .on) (h : decodeContact x y ≠ (s.ac.get k).contact) :
    exec (.lockContactChange k x y) s =
      .next (commit k ((s.ac.get k).contactChange s.ct.table s.sv.hold (decodeContact x y)) s) :=
  exec_event_eq (f := lockContactChange k x y) hon (if_neg h)

theorem exec_centreSensor_same {x y : Bool} (hon : s.power = .on) (h : decodeCentre x y = (s.ac.get k).centre) :
    exec (.centreSensorChange k x y) s = .next s :=
  exec_event_eq (f := centreSensorChange k x y) hon (if_pos h)

theorem exec_centreSensor {x y : Bool} (hon : s.power = .on) (h : decodeCentre x y ≠ (s.ac.get k).centre) :
    exec (.centreSensorChange k x y) s =
      .next (commit k ⟨(s.ac.get k).centreChange (s.ct.table.chan.get k).homingDuty (decodeCentre x y), []⟩ s) :=
  exec_event_eq (f := centreSensorChange k x y) hon (if_neg h)

/-! ### What a change of the lock contact does, by state -/

section
variable {tab : ConfigTable} {hold : HoldMode} {r : Contact}

/-- The states that keep the reading alone. -/
theorem contactChange_reads (h : ch.state = .absent ∨ ch.state = .unhomed ∨ ch.state = .homing .assessing ∨
    ch.state = .homing .capturing ∨ ch.state = .centring .stepping) :
    ch.contactChange tab hold r = ⟨{ ch with contact := r }, []⟩ := by
  cases ch; dsimp only at h; obtain rfl | rfl | rfl | rfl | rfl := h <;> rfl

theorem contactChange_watchEngaged (h : ch.state = .locked ∨ ch.state = .faulted .lockEngaged) :
    ch.contactChange tab hold r = ⟨{ ch with contact := r, lockT := watchEngaged ch.contact r ch.lockT }, []⟩ := by
  cases ch; dsimp only at h; obtain rfl | rfl := h <;> rfl

theorem contactChange_watchReleased (h : ch.state = .tracking ∨ ch.state = .holding) :
    ch.contactChange tab hold r = ⟨{ ch with contact := r, lockT := watchReleased ch.contact r ch.lockT }, []⟩ := by
  cases ch; dsimp only at h; obtain rfl | rfl := h <;> rfl

theorem contactChange_awaiting (h : ch.state = .releasing .awaiting) :
    ch.contactChange tab hold r =
      ⟨if r = .released then { ch with contact := r }.takeReleased tab hold else { ch with contact := r }, []⟩ := by
  cases ch; dsimp only at h; subst h; cases r <;> rfl

theorem contactChange_settling (h : ch.state = .releasing .settling) :
    ch.contactChange tab hold r = ⟨{ ch with contact := r, state := .releasing .awaiting, settle := none }, []⟩ := by
  cases ch; dsimp only at h; subst h; rfl

/-- The phases of homing in which ENGAGED is awaited take it with the centre sensor at the centre; seeking away from the
centre faults the channel. -/
theorem contactChange_homes (h : ch.state = .homing .engaging ∨ (ch.state = .homing .seeking ∧ ch.centre = .centre))
    (hr : r = .engaged) : ch.contactChange tab hold r = ⟨{ ch with contact := r }.toCapturing, []⟩ := by
  subst hr; cases ch; dsimp only at h; obtain rfl | ⟨rfl, rfl⟩ := h <;> rfl

theorem contactChange_disagrees (h : ch.state = .homing .seeking) (hc : ch.centre ≠ .centre) (hr : r = .engaged) :
    ch.contactChange tab hold r = ⟨{ ch with contact := r }.toFaulted, [.homingDisagree]⟩ := by
  subst hr; cases ch; dsimp only at h hc; subst h; exact if_neg hc

theorem contactChange_unengaged (h : ch.state = .homing .seeking ∨ ch.state = .homing .engaging ∨
    ch.state = .centring .engaging) (hr : r ≠ .engaged) :
    ch.contactChange tab hold r = ⟨{ ch with contact := r }, []⟩ := by
  cases ch; dsimp only at h; obtain rfl | rfl | rfl := h <;> exact if_neg hr

theorem contactChange_engages (h : ch.state = .centring .engaging) (hr : r = .engaged) :
    ch.contactChange tab hold r = ⟨{ ch with contact := r }.takeEngaged, []⟩ := by
  subst hr; cases ch; dsimp only at h; subst h; rfl

theorem contactChange_lockAwaited (h : ch.state = .faulted .lockAwaited) :
    ch.contactChange tab hold r =
      ⟨{ ch with contact := r, lockT := watchEngaged ch.contact r ch.lockT }.engageAtZero, []⟩ := by
  cases ch; dsimp only at h; subst h; rfl

theorem contactChange_lockFailed (h : ch.state = .faulted .lockFailed) :
    ch.contactChange tab hold r = ⟨{ ch with contact := r }.engageAtZero, []⟩ := by
  cases ch; dsimp only at h; subst h; rfl

end

/-- FAULTED with the lock awaited or failed engages with the contact ENGAGED and the target 0 (R116, R118). -/
theorem engageAtZero_engaged (h : ch.state = .faulted .lockAwaited ∨ ch.state = .faulted .lockFailed)
    (hc : ch.contact = .engaged) (ht : ch.theta = 0) :
    ch.engageAtZero = { ch with state := .faulted .lockEngaged, drive := .off, lockT := none } := if_pos ⟨h, hc, ht⟩

theorem engageAtZero_not (h : ch.contact ≠ .engaged ∨ ch.theta ≠ 0) : ch.engageAtZero = ch :=
  if_neg fun ⟨_, hc, ht⟩ => h.elim (absurd hc) (absurd ht)

theorem callsPartnerRule_faulted {p : FaultPhase} (h : ch.state = .faulted p) : callsPartnerRule ch = true := by
  unfold callsPartnerRule; rw [h]

/-- The engagement of R113 in a record: FAULTED with the fault mark, LOCKED without it. -/
theorem takeEngaged_of_engaged (h : ch.contact = .engaged) : ch.takeEngaged = { ch with
    state := if ch.mark = true then .faulted .lockEngaged else .locked, mark := false, drive := .off, solenoid := false,
    homingT := none, lockT := none, settle := none, centringT := none } := by
  unfold Channel.takeEngaged Channel.toLocked Channel.timersIdle
  cases hm : ch.mark
  · simp only [h, if_true, Bool.false_eq_true, if_false]
  · simp only [if_true]

theorem needFresh_eq (c : Conversion) : c.needFresh = if c = .none then .inFlight false else .inFlight true := by
  cases c <;> rfl

theorem toCapturing_eq (ch : Channel) : ch.toCapturing = { ch with
    state := .homing .capturing, drive := .off, solenoid := false, lockT := none,
    conv := if ch.conv = .none then .inFlight false else .inFlight true } := by
  rw [← needFresh_eq]; rfl

theorem toFaulted_engaged (hc : ch.contact = .engaged) (ht : ch.theta = 0) : ch.toFaulted = { ch with
    state := .faulted .lockEngaged, drive := .off, solenoid := false, homingT := none, lockT := none, settle := none,
    centringT := none } := by
  unfold Channel.toFaulted Channel.timersIdle; simp only [hc, ht, and_self, if_true]

/-- CENTRING orders no partner by a change that calls for none without its fault mark: with it, it called before (R129,
R130). -/
theorem Solitary.of_centring (hb : BogieInv s) {p : CentringPhase} (h : (s.ac.get k).state = .centring p)
    (hc : (s.ac.get k).mark = false → callsPartnerRule ch = false) : Solitary k ch s := by
  cases hm : (s.ac.get k).mark
  · exact .of_quiet (hc hm)
  · exact .of_calling hb (by unfold callsPartnerRule; rw [h]; exact hm)

theorem Solitary.of_engaged (hb : BogieInv s) {p : CentringPhase} (h : (s.ac.get k).state = .centring p)
    (hc : ch.state = if (s.ac.get k).mark = true then .faulted .lockEngaged else .locked) : Solitary k ch s :=
  .of_centring hb h fun hm => by unfold callsPartnerRule; rw [hc, hm]; rfl

/-- What the seeking phase does on a reading of the centre sensor, with its drive energised (R100). -/
def Channel.sought (duty : Nat) (applied : Int) (ch : Channel) : Centre → Channel
  | .left => { ch with centre := .left, drive := .energised applied (some (-(duty : Int))) }
  | .right => { ch with centre := .right, drive := .energised applied (some (duty : Int)) }
  | .centre => { ch with centre := .centre, state := .homing .engaging, drive := .off, solenoid := false, lockT := some 0 }

theorem centreChange_seeks {duty : Nat} {r : Centre} {applied : Int} {waiting : Option Int}
    (h : ch.state = .homing .seeking) (hd : ch.drive = .energised applied waiting) :
    ch.centreChange duty r = ch.sought duty applied r := by
  cases ch; dsimp only at h hd; subst h hd; cases r <;> rfl

/-! ### The settled statement -/

theorem lockContact_commits {x y : Bool} (hon : s.power = .on) (h : decodeContact x y ≠ (s.ac.get k).contact)
    {st : ChanStep} (hw : (s.ac.get k).contactChange s.ct.table s.sv.hold (decodeContact x y) = st) :
    exec (.lockContactChange k x y) s = .next (commit k st s) :=
  hw ▸ exec_lockContact hon h

/-- A change of the lock contact whose work on the record is known, taken by the channel alone. -/
theorem lockContact_takes {x y : Bool} (hon : s.power = .on) (h : decodeContact x y ≠ (s.ac.get k).contact)
    (hw : (s.ac.get k).contactChange s.ct.table s.sv.hold (decodeContact x y) = ⟨ch, []⟩) (hs : Solitary k ch s) :
    Takes (.lockContactChange k x y) k ch s :=
  commit_takes (lockContact_commits hon h hw) hs

theorem centreSensor_takes {x y : Bool} (hon : s.power = .on) (h : decodeCentre x y ≠ (s.ac.get k).centre)
    (hw : (s.ac.get k).centreChange (s.ct.table.chan.get k).homingDuty (decodeCentre x y) = ch) (hs : Solitary k ch s) :
    Takes (.centreSensorChange k x y) k ch s :=
  commit_takes (hw ▸ exec_centreSensor hon h) hs

/-- Settles O52: each change of a reading is one committed change of the channel's record, which the channel's state works
out; the partner is ordered where HOMING_DISAGREE faults the channel alone. -/
theorem sensorChangesAreTakenByState : Obligations.SensorChangesAreTakenByState := by
  unfold Obligations.SensorChangesAreTakenByState
  intro k x y s hon hb ch cfg contact reading takes lock next
  have hcontact : decodeContact x y = contact := decodeContact_eq x y
  have hreading : decodeCentre x y = reading := decodeCentre_eq x y
  refine ⟨fun h => exec_lockContact_same hon (hcontact.trans h), fun h => ?_, fun h =>
    exec_centreSensor_same hon (hreading.trans h), fun h => ⟨fun hst => ?_, fun applied waiting hst hd => ?_⟩⟩
  · clear_value contact
    subst hcontact
    have taken {ch' : Channel} (hw : ch.contactChange s.ct.table s.sv.hold (decodeContact x y) = ⟨ch', []⟩)
        (hs : Solitary k ch' s) : takes lock ch' := lockContact_takes hon h hw hs
    have same {ch' : Channel} (hw : ch.contactChange s.ct.table s.sv.hold (decodeContact x y) = ⟨ch', []⟩)
        (hst : ch.state = ch'.state) (hm : ch.mark = ch'.mark) : takes lock ch' := taken hw (.of_same hst hm)
    refine ⟨fun hst => same (contactChange_reads hst) rfl rfl, fun hst => same (contactChange_watchEngaged hst) rfl rfl,
      fun hst => same (contactChange_watchReleased hst) rfl rfl, fun hst hr hn => taken ?_ (.of_quiet rfl),
      fun hst hr hn => taken ?_ (.of_quiet ?_), fun hst hr => same ?_ rfl rfl,
      fun hst => taken (contactChange_settling hst) (.of_quiet rfl), fun hst he => taken ?_ (.of_quiet rfl),
      fun hst hc he ht => ?_, fun hst he => same (contactChange_unengaged (hst.imp_right .inl) he) rfl rfl,
      fun hst he => same (contactChange_unengaged (.inr (.inr hst)) he) rfl rfl, fun hst he => ?_,
      fun hst he ht => ?_, fun hst he => ?_, fun hst he => ?_⟩
    · rw [contactChange_awaiting hst, if_pos hr]
      exact congrArg (ChanStep.mk · []) (if_neg hn)
    · rw [contactChange_awaiting hst, if_pos hr]
      exact congrArg (ChanStep.mk · []) (if_pos hn)
    · unfold callsPartnerRule; dsimp only; split_ifs <;> rfl
    · rw [contactChange_awaiting hst, if_neg hr]
    · rw [contactChange_homes hst he]
      exact congrArg (ChanStep.mk · []) (toCapturing_eq _)
    · have faulted := lockContact_commits hon h ((contactChange_disagrees hst hc he).trans
        (congrArg (ChanStep.mk · _) (toFaulted_engaged (ch := next) he ht)))
      have ordered : OrdersPartner ch { next with
          state := .faulted .lockEngaged, drive := .off, solenoid := false, homingT := none, lockT := none,
          settle := none, centringT := none } :=
        ⟨fun hsame => absurd (hst.symm.trans hsame.1) nofun, rfl⟩
      obtain ⟨hself, hpartner, hothers⟩ := commit_fault_get (c := .homingDisagree) nofun ordered
      exact ⟨_, faulted, commit_onlyAcSv _ _ _, commit_fault_keepsOrders nofun, commit_raised nofun nofun, hself, hothers,
        hpartner⟩
    · have engaged := takeEngaged_of_engaged (ch := next) he
      exact taken ((contactChange_engages hst he).trans (congrArg (ChanStep.mk · []) engaged)) 
        (.of_engaged hb hst rfl)
    · obtain hst | hst := hst
      · exact taken ((contactChange_lockAwaited hst).trans
          (congrArg (ChanStep.mk · []) (engageAtZero_engaged (.inl hst) he ht))) (.of_calling hb (callsPartnerRule_faulted hst))
      · exact taken ((contactChange_lockFailed hst).trans
          (congrArg (ChanStep.mk · []) (engageAtZero_engaged (.inr hst) he ht))) (.of_calling hb (callsPartnerRule_faulted hst))
    · exact same ((contactChange_lockAwaited hst).trans (congrArg (ChanStep.mk · []) (engageAtZero_not he))) rfl rfl
    · exact same ((contactChange_lockFailed hst).trans (congrArg (ChanStep.mk · []) (engageAtZero_not he))) rfl rfl
  · exact centreSensor_takes hon (hreading ▸ h) (hreading ▸ if_neg hst) (.of_same rfl rfl)
  · have seeks := centreChange_seeks (duty := cfg.homingDuty) (r := decodeCentre x y) hst hd
    have sought {c : Centre} (hr : reading = c) (hs : Solitary k (ch.sought cfg.homingDuty applied c) s) :
        takes (.centreSensorChange k x y) (ch.sought cfg.homingDuty applied c) :=
      centreSensor_takes hon (hreading ▸ h)
        (seeks.trans (congrArg (ch.sought cfg.homingDuty applied) (hreading.trans hr))) hs
    have quiet {duty : Option Int} {c : Centre} :
        Solitary k { ch with centre := c, drive := .energised applied duty } s :=
      .of_quiet (by unfold callsPartnerRule; rw [hst])
    exact ⟨fun hr => sought hr quiet, fun hr => sought hr quiet, fun hr => sought hr (.of_quiet rfl)⟩

end Sys2Proof.Machine

/-! # Conversion completions (R93 to R96, R99 to R101, R108, R111, R113, R117) -/

namespace Sys2Proof.Machine

variable {s t : State} {k : Chan} {ch : Channel} {raw : Nat} {fresh : Bool}

/-! ### What follows the state's work -/

/-- The record at the completion: the conversion has ended, the fresh one requested of it has started, m is formed. -/
def Channel.completed (scale raw : Nat) (fresh : Bool) (ch : Channel) : Channel :=
  { ch with conv := if fresh then .inFlight false else .none, m := measured raw ch.z scale }

/-- The record with the loop's duty loaded (R96). -/
def Channel.looped (cfg : ChanConfig) (ch : Channel) : Channel :=
  { ch with drive := ch.drive.load (loopDuty ch.theta ch.m cfg.kp cfg.dmax) }

/-- Verification and the loop's load, after the work of the state. -/
def afterWork (k : Chan) (s : State) : State :=
  if (s.ac.get k).state.steers ∧ ¬((trackingError k s).ac.get k).state.steers then trackingError k s
  else loadLoopDuty k (trackingError k s)

/-- The persistence count of a channel in TRACKING or HOLDING stands at the persistence limit. -/
def Persists (cfg : ChanConfig) (ch : Channel) : Prop := ch.state.steers = true ∧ cfg.persistLimit ≤ ch.persist

theorem trackingError_not (h : ¬Persists (s.ct.table.chan.get k) (s.ac.get k)) : trackingError k s = s := if_neg h

theorem trackingError_of (h : Persists (s.ct.table.chan.get k) (s.ac.get k)) :
    trackingError k s = commit k ⟨(s.ac.get k).toCentring true, [.trackingError]⟩ s := if_pos h

theorem afterWork_keeps (h : ¬Persists (s.ct.table.chan.get k) (s.ac.get k)) : afterWork k s = loadLoopDuty k s := by
  unfold afterWork
  rw [trackingError_not h, if_neg (fun ⟨hs, hn⟩ => hn hs)]

theorem afterWork_loses (h : Persists (s.ct.table.chan.get k) (s.ac.get k)) :
    afterWork k s = commit k ⟨(s.ac.get k).toCentring true, [.trackingError]⟩ s := by
  unfold afterWork
  rw [trackingError_of h, commit_get_self k _ s rfl, if_pos ⟨h.1, nofun⟩]

theorem loadLoopDuty_runs (h : (s.ac.get k).loopRuns = true) :
    loadLoopDuty k s = putChannel k ((s.ac.get k).looped (s.ct.table.chan.get k)) s := if_pos h

theorem loadLoopDuty_idle (h : (s.ac.get k).loopRuns = false) : loadLoopDuty k s = s :=
  if_neg (by rw [h]; nofun)

/-! ### A completion, by its code -/

theorem codeOutOfRange_iff (raw : Nat) : codeOutOfRange raw = true ↔ raw ≤ 8 ∨ 4087 ≤ raw := by
  rw [show codeOutOfRange raw = (decide (raw ≤ 8) || decide (4087 ≤ raw)) from rfl, Bool.or_eq_true, decide_eq_true_iff,
    decide_eq_true_iff]

theorem codeOutOfRange_false (hlo : 8 < raw) (hhi : raw < 4087) : codeOutOfRange raw = false :=
  Bool.eq_false_iff.2 fun h => ((codeOutOfRange_iff raw).1 h).elim (by omega) (by omega)

/-- A completion whose code is in range, or in UNHOMED: the work of the state, and what follows it. -/
theorem exec_completion (hon : s.power = .on) (hconv : (s.ac.get k).conv = .inFlight fresh)
    (hr : codeOutOfRange raw = false ∨ (s.ac.get k).state = .unhomed) {st : ChanStep}
    (hw : ((s.ac.get k).completed (s.ct.table.chan.get k).scale raw fresh).completionWork s.ct.table
      (s.ct.table.chan.get k) (!fresh) raw = st) :
    exec (.conversionCompletion k raw) s = .next (afterWork k (commit k st s)) := by
  refine exec_event_eq (f := completeConversion k raw) hon ?_
  unfold completeConversion
  simp only [hconv]
  rw [if_neg fun ⟨ho, hu⟩ => hr.elim (fun h => Bool.false_ne_true (h.symm.trans ho)) (absurd · hu), ← hw]
  rfl

/-- A completion with an out-of-range code (R117). -/
theorem exec_completion_out (hon : s.power = .on) (hconv : (s.ac.get k).conv = .inFlight fresh)
    (hr : codeOutOfRange raw = true) (hu : (s.ac.get k).state ≠ .unhomed)
    (hw : ((s.ac.get k).completed (s.ct.table.chan.get k).scale raw fresh).sensorRange = ch) :
    exec (.conversionCompletion k raw) s = .next (commit k ⟨ch, [.sensorRange]⟩ s) := by
  subst hw
  refine exec_event_eq (f := completeConversion k raw) hon ?_
  unfold completeConversion
  simp only [hconv]
  exact if_pos ⟨hr, hu⟩

theorem exec_completion_none (hon : s.power = .on) (hconv : (s.ac.get k).conv = .none) :
    exec (.conversionCompletion k raw) s = .next s := by
  refine exec_event_eq (f := completeConversion k raw) hon ?_
  unfold completeConversion
  simp only [hconv]

/-! ### The work of each state (R94) -/

section
variable {tab : ConfigTable} {cfg : ChanConfig} {f : Bool}

/-- The states that do no work at a completion. -/
theorem completionWork_idle (h : (∃ p, ch.state = .releasing p) ∨ ch.state = .centring .engaging ∨
    (∃ p, ch.state = .faulted p) ∨ ch.state = .unhomed ∨ ch.state = .locked ∨ ch.state = .homing .seeking ∨
    ch.state = .homing .engaging) : ch.completionWork tab cfg f raw = ⟨ch, []⟩ := by
  cases ch; dsimp only at h; obtain ⟨p, rfl⟩ | rfl | ⟨p, rfl⟩ | rfl | rfl | rfl | rfl := h <;> rfl

theorem completionWork_steers (h : ch.state = .tracking ∨ ch.state = .holding) : ch.completionWork tab cfg f raw =
    ⟨{ ch with persist := if cfg.tolerance < (ch.theta - ch.m).natAbs then ch.persist + 1 else 0 }, []⟩ := by
  cases ch; dsimp only at h; obtain rfl | rfl := h <;> rfl

theorem completionWork_stepping (h : ch.state = .centring .stepping) : ch.completionWork tab cfg f raw =
    ⟨if ch.theta = 0 ∧ ch.m.natAbs ≤ tab.lockWindow then ch.toEngaging else ch, []⟩ := by
  unfold Channel.completionWork; rw [h]; dsimp only; split_ifs <;> rfl

theorem completionWork_stale (hf : f = false) (h : ch.state = .homing .assessing ∨ ch.state = .homing .capturing) :
    ch.completionWork tab cfg f raw = ⟨ch, []⟩ := by
  subst hf; cases ch; dsimp only at h; obtain rfl | rfl := h <;> rfl

theorem completionWork_assesses (hf : f = true) (h : ch.state = .homing .assessing) :
    ch.completionWork tab cfg f raw =
      if ch.contact = .engaged then
        if ch.centre = .centre then ⟨{ ch with z := raw }.toLocked, []⟩ else ⟨ch.toFaulted, [.homingDisagree]⟩
      else ⟨ch.toSeeking cfg.homingDuty, []⟩ := by
  unfold Channel.completionWork; rw [h, hf]; rfl

theorem completionWork_captures (hf : f = true) (h : ch.state = .homing .capturing) :
    ch.completionWork tab cfg f raw = ⟨{ ch with z := raw }.toLocked, []⟩ := by
  unfold Channel.completionWork; rw [h, hf]; rfl

end

/-! ### Completions that change no state -/

/-- A change of the record that keeps state and mark is reported to nobody. -/
theorem commit_of_same (hs : (s.ac.get k).state = ch.state) (hm : (s.ac.get k).mark = ch.mark) :
    commit k ⟨ch, []⟩ s = putChannel k ch s := by
  unfold commit reportChange
  rw [if_neg (by simp)]
  dsimp only [List.foldl]
  rw [putChannel_ac, Quad.get_set_self, if_pos ⟨hs, hm⟩]

/-- The record after the loop's load, where the loop runs (R96). -/
def Channel.steered (cfg : ChanConfig) (ch : Channel) : Channel := if ch.loopRuns then ch.looped cfg else ch

theorem loadLoopDuty_eq (k : Chan) (s : State) :
    loadLoopDuty k s = s.setAc (s.ac.set k ((s.ac.get k).steered (s.ct.table.chan.get k))) := by
  unfold Channel.steered
  split_ifs with h
  · exact loadLoopDuty_runs h
  · rw [loadLoopDuty_idle (Bool.eq_false_iff.2 h), Quad.set_self]; rfl

theorem Quad.set_set {α : Type} (q : Quad α) (k : Chan) (a b : α) : (q.set k a).set k b = q.set k b := by cases k <;> rfl

theorem completion_becomes (hon : s.power = .on) (hconv : (s.ac.get k).conv = .inFlight fresh)
    (hr : codeOutOfRange raw = false ∨ (s.ac.get k).state = .unhomed)
    (hw : ((s.ac.get k).completed (s.ct.table.chan.get k).scale raw fresh).completionWork s.ct.table
      (s.ct.table.chan.get k) (!fresh) raw = ⟨ch, []⟩)
    (hs : (s.ac.get k).state = ch.state) (hm : (s.ac.get k).mark = ch.mark) (hp : ¬Persists (s.ct.table.chan.get k) ch) :
    exec (.conversionCompletion k raw) s = .next (s.setAc (s.ac.set k (ch.steered (s.ct.table.chan.get k)))) := by
  rw [exec_completion hon hconv hr hw, commit_of_same hs hm, afterWork_keeps, loadLoopDuty_eq]
  all_goals rw [putChannel_ac, Quad.get_set_self]
  · rw [Quad.set_set]; rfl
  · exact hp

theorem completion_loses (hon : s.power = .on) (hconv : (s.ac.get k).conv = .inFlight fresh)
    (hr : codeOutOfRange raw = false)
    (hw : ((s.ac.get k).completed (s.ct.table.chan.get k).scale raw fresh).completionWork s.ct.table
      (s.ct.table.chan.get k) (!fresh) raw = ⟨ch, []⟩)
    (hs : (s.ac.get k).state = ch.state) (hm : (s.ac.get k).mark = ch.mark) (hp : Persists (s.ct.table.chan.get k) ch) :
    ∃ t, exec (.conversionCompletion k raw) s = .next t ∧ OnlyAcSv s t ∧ KeepsOrders s t ∧
      t.ac.get k = ch.toCentring true ∧
      (t.ac.get k.partner = if (s.ac.get k.partner).state.released = true then (s.ac.get k.partner).toCentring false
        else s.ac.get k.partner) ∧
      (∀ j, j ≠ k → j ≠ k.partner → t.ac.get j = s.ac.get j) ∧ Raised .trackingError (.chan k) s t := by
  have hself : (putChannel k ch s).ac.get k = ch := Quad.get_set_self _ _ _
  have hother {j : Chan} (hj : j ≠ k) : (putChannel k ch s).ac.get j = s.ac.get j := Quad.get_set_ne _ _ hj
  have ordered : OrdersPartner ((putChannel k ch s).ac.get k) (ch.toCentring true) := by
    rw [hself]
    exact ⟨fun h => absurd (congrArg ChanState.steers h.1) (by rw [hp.1]; nofun), rfl⟩
  obtain ⟨gself, gpartner, gothers⟩ := commit_fault_get (c := .trackingError) nofun ordered
  refine ⟨_, exec_completion hon hconv (.inl hr) hw, ?_⟩
  rw [commit_of_same hs hm, afterWork_loses (by rw [hself]; exact hp), hself]
  rw [hother (Chan.partner_ne k)] at gpartner
  exact ⟨(putChannel_onlyAcSv k ch s).trans (commit_onlyAcSv _ _ _), commit_fault_keepsOrders (s := putChannel k ch s) nofun,
    gself, gpartner, fun j hj hjp => (gothers j hj hjp).trans (hother hj),
    (commit_raised (c := .trackingError) (s := putChannel k ch s) nofun nofun).of_same rfl rfl rfl⟩

/-- A completion whose work moves the channel to a state that does not steer: the record moved, with the loop's load, and
no other channel's unless the partner is ordered. -/
theorem completion_enters (hon : s.power = .on) (hconv : (s.ac.get k).conv = .inFlight fresh)
    (hr : codeOutOfRange raw = false)
    (hw : ((s.ac.get k).completed (s.ct.table.chan.get k).scale raw fresh).completionWork s.ct.table
      (s.ct.table.chan.get k) (!fresh) raw = ⟨ch, []⟩) (hp : ch.state.steers = false) :
    ∃ t, exec (.conversionCompletion k raw) s = .next t ∧ OnlyAcSv s t ∧ KeepsOrders s t ∧
      t.ac.get k = ch.steered (s.ct.table.chan.get k) ∧ (Solitary k ch s → ∀ j, j ≠ k → t.ac.get j = s.ac.get j) := by
  have moved : (commit k ⟨ch, []⟩ s).ac.get k = ch := commit_get_self k ⟨ch, []⟩ s rfl
  have table : (commit k ⟨ch, []⟩ s).ct = s.ct := (commit_onlyAcSv k ⟨ch, []⟩ s).2.2.2.2.2.2.2.1
  have quiet : ¬Persists ((commit k ⟨ch, []⟩ s).ct.table.chan.get k) ((commit k ⟨ch, []⟩ s).ac.get k) := by
    rw [moved]; exact fun h => Bool.false_ne_true (hp.symm.trans h.1)
  refine ⟨_, exec_completion hon hconv (.inl hr) hw, ?_⟩
  rw [afterWork_keeps quiet]
  refine ⟨(commit_onlyAcSv _ _ _).trans (loadLoopDuty_onlyAcSv _ _), ?_, ?_, fun hsol j hj => ?_⟩
  all_goals rw [loadLoopDuty_eq]
  · exact commit_keepsOrders k ch s
  · rw [moved, table]; exact Quad.get_set_self _ _ _
  · exact (Quad.get_set_ne _ _ hj).trans (by rw [commit_ac_solitary rfl hsol, Quad.get_set_ne _ _ hj])

/-! ### Where the loop runs (R91, R118) -/

theorem loopRuns_iff (ch : Channel) : ch.loopRuns = true ↔ (∃ p, ch.state = .releasing p) ∨ ch.state = .tracking ∨
    ch.state = .holding ∨ (∃ p, ch.state = .centring p) ∨ (ch.state = .faulted .lockFailed ∧ ch.untrusted = false) := by
  unfold Channel.loopRuns
  split <;> simp_all

theorem steered_runs (cfg : ChanConfig) (h : ch.loopRuns = true) : ch.steered cfg = ch.looped cfg := if_pos h

theorem steered_idle (cfg : ChanConfig) (h : ch.loopRuns = false) : ch.steered cfg = ch := if_neg (by rw [h]; nofun)

/-- The entry into the engaging phase of CENTRING with the lock not yet engaged (R111). -/
theorem toEngaging_apart (h : ch.contact ≠ .engaged) : ch.toEngaging = { ch with
    state := .centring .engaging, solenoid := false, homingT := none, lockT := some 0, settle := none,
    centringT := none } := if_neg h

/-- The entry with the lock engaged already: it is taken at once (R113). -/
theorem toEngaging_engaged (h : ch.contact = .engaged) : ch.toEngaging = { ch with
    state := if ch.mark = true then .faulted .lockEngaged else .locked, mark := false, drive := .off, solenoid := false,
    homingT := none, lockT := none, settle := none, centringT := none } :=
  (if_pos h).trans (takeEngaged_of_engaged (by exact h))

/-! ### The settled statements -/

/-- Settles O50: each state's work on the record, taken alone or with the order that TRACKING_ERROR sends, and the loop's
load where it runs afterwards. -/
theorem verificationAndLoop : Obligations.VerificationAndLoop := by
  unfold Obligations.VerificationAndLoop
  intro k raw s hon
  refine ⟨exec_completion_none hon, fun fresh hconv hlo hhi => ?_⟩
  intro ch cfg m duty next looped becomes centred
  have inRange : codeOutOfRange raw = false := codeOutOfRange_false hlo hhi
  have runs {ch' : Channel} (hw : next.completionWork s.ct.table cfg (!fresh) raw = ⟨ch', []⟩) (hs : ch.state = ch'.state)
      (hm : ch.mark = ch'.mark) (hp : ¬Persists cfg ch') (hl : ch'.loopRuns = true) : becomes (ch'.looped cfg) :=
    steered_runs cfg hl ▸ completion_becomes hon hconv (.inl inRange) hw hs hm hp
  refine ⟨fun hst => ⟨fun htol hlim => ?_, fun htol hlim => ?_, fun htol hlim => ?_⟩, fun hst => ?_, fun hst ht hm hc => ?_,
    fun hst ht hm hc => ?_, fun hst => ?_⟩
  · refine runs (ch' := { next with persist := 0 }) ((completionWork_steers (ch := next) hst).trans ?_) rfl rfl
      (fun hp => absurd hlim (Nat.not_lt.2 hp.2)) ((loopRuns_iff _).2 (.inr (hst.imp_right .inl)))
    exact congrArg (fun n => ChanStep.mk { next with persist := n } []) (if_neg (Nat.not_lt.2 htol))
  · refine runs (ch' := { next with persist := ch.persist + 1 }) ((completionWork_steers (ch := next) hst).trans ?_) rfl rfl
      (fun hp => absurd hlim (Nat.not_lt.2 hp.2)) ((loopRuns_iff _).2 (.inr (hst.imp_right .inl)))
    exact congrArg (fun n => ChanStep.mk { next with persist := n } []) (if_pos htol)
  · have steers : ch.state.steers = true := hst.elim (fun h => h ▸ rfl) (fun h => h ▸ rfl)
    refine completion_loses (ch := { next with persist := ch.persist + 1 }) hon hconv inRange
      ((completionWork_steers (ch := next) hst).trans ?_) rfl rfl ⟨steers, hlim⟩
    exact congrArg (fun n => ChanStep.mk { next with persist := n } []) (if_pos htol)
  · refine runs (ch' := next) ?_ rfl rfl ?_ ((loopRuns_iff _).2 ?_)
    · obtain hst | hst | ⟨hst, -⟩ | ⟨hst, hwork⟩ := hst
      · exact completionWork_idle (.inl hst)
      · exact completionWork_idle (.inr (.inl hst))
      · exact completionWork_idle (.inr (.inr (.inl ⟨_, hst⟩)))
      · rw [completionWork_stepping (ch := next) hst, if_neg fun ⟨ht, hm⟩ => hwork.elim (absurd ht) (Nat.not_lt.2 hm)]
    · obtain ⟨p, hst⟩ | hst | ⟨hst, -⟩ | ⟨hst, -⟩ := hst <;> exact fun hp => absurd (hst ▸ hp.1) nofun
    · obtain hst | hst | hst | ⟨hst, -⟩ := hst
      exacts [.inl hst, .inr (.inr (.inr (.inl ⟨_, hst⟩))), .inr (.inr (.inr (.inr hst))),
        .inr (.inr (.inr (.inl ⟨_, hst⟩)))]
  · have work : next.completionWork s.ct.table cfg (!fresh) raw = ⟨{ next with
        state := .centring .engaging, solenoid := false, homingT := none, lockT := some 0, settle := none,
        centringT := none }, []⟩ := by
      rw [completionWork_stepping (ch := next) hst, if_pos ⟨ht, hm⟩, toEngaging_apart (ch := next) hc]
    obtain ⟨t, he, hac, ho, hself, hothers⟩ := completion_enters hon hconv inRange work rfl
    exact ⟨t, he, hac, ho, hself, fun hb => hothers (.of_centring hb hst fun hm => hm)⟩
  · have work : next.completionWork s.ct.table cfg (!fresh) raw = ⟨{ next with
        state := if ch.mark = true then .faulted .lockEngaged else .locked, mark := false, drive := .off,
        solenoid := false, homingT := none, lockT := none, settle := none, centringT := none }, []⟩ := by
      rw [completionWork_stepping (ch := next) hst, if_pos ⟨ht, hm⟩, toEngaging_engaged (ch := next) hc]
    have idle {c : Channel} (h : c.state = if ch.mark = true then .faulted .lockEngaged else .locked) :
        c.state.steers = false ∧ c.loopRuns = false := by
      unfold Channel.loopRuns
      rw [h]
      cases ch.mark <;> exact ⟨rfl, rfl⟩
    obtain ⟨t, he, hac, ho, hself, hothers⟩ := completion_enters hon hconv inRange work (idle rfl).1
    exact ⟨t, he, hac, ho, hself.trans (steered_idle cfg (idle rfl).2), fun hb => hothers (.of_engaged hb hst rfl)⟩
  · have idle : (∃ p, ch.state = .faulted p) ∨ ch.state = .unhomed ∨ ch.state = .locked ∨
        ch.state = .homing .seeking ∨ ch.state = .homing .engaging := by
      obtain h | h | h | h | h | h | ⟨h, -⟩ := hst
      exacts [.inr (.inl h), .inr (.inr (.inl h)), .inr (.inr (.inr (.inl h))), .inr (.inr (.inr (.inr h))),
        .inl ⟨_, h⟩, .inl ⟨_, h⟩, .inl ⟨_, h⟩]
    have silent : next.loopRuns = false := Bool.eq_false_iff.2 fun hl => by
      obtain ⟨p, h⟩ | h | h | ⟨p, h⟩ | ⟨h, hu⟩ := (loopRuns_iff next).1 hl <;> simp_all [next]
    refine (steered_idle (ch := next) cfg silent) ▸ completion_becomes (ch := next) hon hconv (.inl inRange)
      (completionWork_idle (.inr (.inr idle))) rfl rfl fun hp => ?_
    obtain ⟨p, h⟩ | h | h | h | h := idle <;> exact absurd (h ▸ hp.1) nofun

end Sys2Proof.Machine

/-! # Homing's measurements and the out-of-range code (R93, R94, R99 to R101, R117) -/

namespace Sys2Proof.Machine

variable {s t : State} {k : Chan} {ch : Channel} {raw : Nat} {fresh : Bool}

/-! ### A completion that faults the channel -/

theorem completion_homingFault (hon : s.power = .on) (hconv : (s.ac.get k).conv = .inFlight fresh)
    (hr : codeOutOfRange raw = false) {st : ChanStep}
    (hw : ((s.ac.get k).completed (s.ct.table.chan.get k).scale raw fresh).completionWork s.ct.table
      (s.ct.table.chan.get k) (!fresh) raw = st)
    (hl : st.faults.contains .lockFail = false) (hs : st.ch.state = .faulted .lockEngaged) :
    exec (.conversionCompletion k raw) s = .next (commit k st s) := by
  have moved : (commit k st s).ac.get k = st.ch := commit_get_self k st s hl
  rw [exec_completion hon hconv (.inl hr) hw, afterWork_keeps, loadLoopDuty_idle]
  all_goals rw [moved]
  · unfold Channel.loopRuns; rw [hs]
  · exact fun hp => absurd (hs ▸ hp.1) nofun

/-- A channel that a fault sends to FAULTED: the fault is recorded and a released partner is ordered to centre (R119,
R129). -/
theorem commit_faults {c : Instr} {f : FaultCode} (h : exec c s = .next (commit k ⟨ch, [f]⟩ s)) (hl : f ≠ .lockFail)
    (hh : f ≠ .horizonShortfall) (ho : OrdersPartner (s.ac.get k) ch) : ∃ t, exec c s = .next t ∧
      (OnlyAcSv s t ∧ KeepsOrders s t ∧ ∀ j, j ≠ k → j ≠ k.partner → t.ac.get j = s.ac.get j) ∧ t.ac.get k = ch ∧
      Raised f (.chan k) s t ∧ t.ac.get k.partner =
        if (s.ac.get k.partner).state.released = true then (s.ac.get k.partner).toCentring false
        else s.ac.get k.partner := by
  obtain ⟨hself, hpartner, hothers⟩ := commit_fault_get hl ho
  exact ⟨_, h, ⟨commit_onlyAcSv _ _ _, commit_fault_keepsOrders hl, hothers⟩, hself, commit_raised hl hh, hpartner⟩

/-- A fault of a channel that stays in its state orders nothing (R117). -/
theorem commit_fault_of_same {f : FaultCode} (hl : f ≠ .lockFail) (hs : (s.ac.get k).state = ch.state)
    (hm : (s.ac.get k).mark = ch.mark) : (commit k ⟨ch, [f]⟩ s).ac = s.ac.set k ch :=
  commit_ac_solitary (by simp [hl.symm]) (.of_same hs hm)

/-! ### The out-of-range code (R117) -/

theorem sensorRange_faulted {p : FaultPhase} (h : ch.state = .faulted p) :
    ch.sensorRange = { ch with drive := .off, solenoid := false, untrusted := true } := by
  unfold Channel.sensorRange; rw [h]

theorem sensorRange_faults (h : ∀ p, ch.state ≠ .faulted p) : ch.sensorRange = { ch with
    state := if ch.contact = .engaged ∧ ch.theta = 0 then .faulted .lockEngaged else .faulted .lockAwaited,
    drive := .off, solenoid := false, untrusted := true, mark := false, homingT := none,
    lockT := if ch.contact = .engaged then none else some 0, settle := none, centringT := none } := by
  unfold Channel.sensorRange
  split
  · exact absurd ‹_› (h _)
  · rfl

/-! ### The entry into the seeking phase (R100) -/

theorem toSeeking_left {duty : Nat} (h : ch.centre = .left) (hd : ch.drive = .off) : ch.toSeeking duty = { ch with
    state := .homing .seeking, solenoid := true, drive := .energised 0 (some (-(duty : Int))) } := by
  cases ch; dsimp only at h hd; subst h hd; rfl

theorem toSeeking_right {duty : Nat} (h : ch.centre = .right) (hd : ch.drive = .off) : ch.toSeeking duty = { ch with
    state := .homing .seeking, solenoid := true, drive := .energised 0 (some (duty : Int)) } := by
  cases ch; dsimp only at h hd; subst h hd; rfl

theorem toSeeking_centre {duty : Nat} (h : ch.centre = .centre) : ch.toSeeking duty = { ch with
    state := .homing .engaging, solenoid := false, drive := .off, lockT := some 0 } := by
  cases ch; dsimp only at h; subst h; rfl

/-! ### The settled statement -/

/-- Settles O51: the measurement of homing's phases takes a fresh conversion alone, and an out-of-range code is taken
before any of them. -/
theorem homingMeasuresAndSensorRange : Obligations.HomingMeasuresAndSensorRange := by
  unfold Obligations.HomingMeasuresAndSensorRange
  intro k raw fresh s hon hconv ch cfg m next rest alone faulted locked
  refine ⟨fun hlo hhi => ?_, fun hout => ?_⟩
  · have inRange : codeOutOfRange raw = false := codeOutOfRange_false hlo hhi
    have stale (hst : ch.state = .homing .assessing ∨ ch.state = .homing .capturing) (hf : fresh = true) :
        exec (.conversionCompletion k raw) s = .next (s.setAc (s.ac.set k next)) := by
      have quiet : next.loopRuns = false ∧ next.state.steers = false := by
        unfold Channel.loopRuns
        obtain h | h := hst <;> rw [show next.state = _ from h] <;> exact ⟨rfl, rfl⟩
      exact steered_idle (ch := next) cfg quiet.1 ▸ completion_becomes (ch := next) hon hconv (.inl inRange)
        (completionWork_stale (by rw [hf]; rfl) hst) rfl rfl fun hp => Bool.false_ne_true (quiet.2.symm.trans hp.1)
    have enters {ch' : Channel} (hw : next.completionWork s.ct.table cfg (!fresh) raw = ⟨ch', []⟩)
        (hq : ch'.state.steers = false) (hl : ch'.loopRuns = false) (hc : callsPartnerRule ch' = false) : alone ch' := by
      obtain ⟨t, he, hac, ho, hself, hothers⟩ := completion_enters hon hconv inRange hw hq
      have others := hothers (.of_quiet hc)
      exact ⟨t, he, ⟨hac, ho, fun j hj _ => others j hj⟩, hself.trans (steered_idle cfg hl), others _ (Chan.partner_ne k)⟩
    refine ⟨fun hst => ⟨stale (.inl hst), fun hf he hc => ?_, fun hf he hc ht => ?_, fun hf he hd => ?_⟩,
      fun hst => ⟨stale (.inr hst), fun hf =>
        enters (completionWork_captures (ch := next) (by rw [hf]; rfl) hst) rfl rfl rfl⟩⟩
    all_goals
      have work := completionWork_assesses (tab := s.ct.table) (cfg := cfg) (raw := raw) (ch := next) (f := !fresh)
        (by rw [hf]; rfl) hst
    · rw [if_pos he, if_pos hc] at work
      exact enters work rfl rfl rfl
    · rw [if_pos he, if_neg hc, toFaulted_engaged (ch := next) he ht] at work
      exact commit_faults (completion_homingFault hon hconv inRange work rfl rfl) nofun nofun
        ⟨fun hsame => absurd (hst.symm.trans hsame.1) nofun, rfl⟩
    · rw [if_neg he] at work
      refine ⟨fun hc => ?_, fun hc => ?_, fun hc => ?_⟩
      · rw [toSeeking_left (ch := next) hc hd] at work
        exact enters work rfl rfl rfl
      · rw [toSeeking_right (ch := next) hc hd] at work
        exact enters work rfl rfl rfl
      · rw [toSeeking_centre (ch := next) hc] at work
        exact enters work rfl rfl rfl
  · have out : codeOutOfRange raw = true := (codeOutOfRange_iff raw).2 hout
    refine ⟨fun hst => ?_, fun p hst => ?_, fun hu ha hf => ?_⟩
    · have quiet : next.loopRuns = false := by unfold Channel.loopRuns; rw [show next.state = _ from hst]
      exact steered_idle (ch := next) cfg quiet ▸ completion_becomes (ch := next) hon hconv (.inr hst)
        (completionWork_idle (.inr (.inr (.inr (.inl hst))))) rfl rfl fun hp => absurd (hst ▸ hp.1) nofun
    · have taken := exec_completion_out hon hconv out (by rw [show (s.ac.get k).state = _ from hst]; nofun)
        (sensorRange_faulted (ch := next) hst)
      exact ⟨_, taken, commit_onlyAcSv _ _ _, commit_fault_keepsOrders nofun, commit_raised nofun nofun,
        commit_fault_of_same nofun rfl rfl⟩
    · have taken := exec_completion_out hon hconv out hu (sensorRange_faults (ch := next) hf)
      refine commit_faults taken nofun nofun ⟨fun hsame => ?_, ?_⟩
      · have stands := hsame.1
        dsimp only at stands
        split_ifs at stands
        exacts [hf _ stands, hf _ stands]
      · unfold callsPartnerRule; dsimp only; split_ifs <;> rfl

end Sys2Proof.Machine

/-! # Target deliveries (R45, R91, R93, R97, R98, R101, R105, R109, R112, R113, R115, R116, R118, R132) -/

namespace Sys2Proof.Machine

variable {s t u : State} {k : Chan} {ch : Channel}

/-! ### What the thresholds and orders of a delivery leave -/

/-- From `s` to `t` every channel's scheduled angle and conversion stand, and the target of every channel but k. -/
def LeavesSchedule (k : Chan) (s t : State) : Prop :=
  ∀ j, (t.ac.get j).sched = (s.ac.get j).sched ∧ (t.ac.get j).conv = (s.ac.get j).conv ∧
    (j ≠ k → (t.ac.get j).theta = (s.ac.get j).theta)

theorem LeavesSchedule.refl (k : Chan) (s : State) : LeavesSchedule k s s := fun _ => ⟨rfl, rfl, fun _ => rfl⟩

theorem LeavesSchedule.trans (h : LeavesSchedule k s t) (h' : LeavesSchedule k t u) : LeavesSchedule k s u := fun j => by
  obtain ⟨hsched, hconv, htheta⟩ := h j
  obtain ⟨hsched', hconv', htheta'⟩ := h' j
  exact ⟨hsched'.trans hsched, hconv'.trans hconv, fun hj => (htheta' hj).trans (htheta hj)⟩

theorem Ordered.leaves {must : Prop} {c d : Channel} (h : Ordered must c d) :
    d.sched = c.sched ∧ d.conv = c.conv ∧ d.theta = c.theta := by
  obtain ⟨rfl, -⟩ | ⟨rfl, -⟩ := h <;> exact ⟨rfl, rfl, rfl⟩

theorem commit_leaves {st : ChanStep} (hs : st.ch.sched = (s.ac.get k).sched) (hc : st.ch.conv = (s.ac.get k).conv) :
    LeavesSchedule k s (commit k st s) := fun j => by
  obtain ⟨hsched, hconv, htheta⟩ := (commit_get k st s j).leaves
  rw [hsched, hconv, htheta]
  by_cases hj : j = k
  · subst hj; rw [Quad.get_set_self]; exact ⟨hs, hc, absurd rfl⟩
  · rw [Quad.get_set_ne _ _ hj]; exact ⟨rfl, rfl, fun _ => rfl⟩

theorem homingTimeout_leaves (k : Chan) (s : State) : LeavesSchedule k s (homingTimeout k s) := by
  unfold homingTimeout; dsimp only; split_ifs
  exacts [commit_leaves rfl rfl, .refl k s]

theorem lockStuck_leaves (k : Chan) (s : State) : LeavesSchedule k s (lockStuck k s) := by
  unfold lockStuck; dsimp only; split_ifs
  exacts [commit_leaves rfl rfl, .refl k s]

theorem lockFail_leaves (k : Chan) (s : State) : LeavesSchedule k s (lockFail k s) := by
  unfold lockFail; dsimp only; split_ifs
  exacts [commit_leaves rfl rfl, .refl k s]

theorem settleFramesReached_leaves (k : Chan) (s : State) : LeavesSchedule k s (settleFramesReached k s) := by
  unfold settleFramesReached; dsimp only; split_ifs
  exacts [commit_leaves rfl rfl, .refl k s]

theorem toEngaging_leaves (ch : Channel) : ch.toEngaging.sched = ch.sched ∧ ch.toEngaging.conv = ch.conv := by
  by_cases h : ch.contact = .engaged
  · rw [toEngaging_engaged h]; exact ⟨rfl, rfl⟩
  · rw [toEngaging_apart h]; exact ⟨rfl, rfl⟩

theorem centringTimerExpiry_leaves (k : Chan) (s : State) : LeavesSchedule k s (centringTimerExpiry k s) := by
  unfold centringTimerExpiry; dsimp only; split_ifs
  exacts [(commit_leaves rfl rfl).trans (commit_leaves (toEngaging_leaves _).1 (toEngaging_leaves _).2),
    (commit_leaves rfl rfl).trans (commit_leaves (toEngaging_leaves _).1 (toEngaging_leaves _).2), .refl k s]

theorem expiries_leaves (k : Chan) (s : State) : LeavesSchedule k s (expiries k s) :=
  ((((homingTimeout_leaves k s).trans (lockStuck_leaves k _)).trans (settleFramesReached_leaves k _)).trans
    (centringTimerExpiry_leaves k _)).trans (lockFail_leaves k _)

/-! ### The delivery's own work -/

theorem applyTarget_leaves (hold : HoldMode) (slew : Nat) (v : Int) (ch : Channel) :
    (ch.applyTarget hold slew v).sched = ch.sched ∧ (ch.applyTarget hold slew v).conv = ch.conv := by
  unfold Channel.applyTarget; (repeat' split) <;> exact ⟨rfl, rfl⟩

theorem countDelivery_leaves (ch : Channel) : ch.countDelivery.sched = ch.sched ∧ ch.countDelivery.conv = ch.conv := by
  unfold Channel.countDelivery; (repeat' split) <;> exact ⟨rfl, rfl⟩

theorem engageAtZero_leaves (ch : Channel) : ch.engageAtZero.sched = ch.sched ∧ ch.engageAtZero.conv = ch.conv := by
  unfold Channel.engageAtZero; split_ifs <;> exact ⟨rfl, rfl⟩

/-- A delivery keeps its value as the scheduled angle and starts a conversion (R45, R93). -/
theorem takeDelivery_sets (hold : HoldMode) (slew : Nat) (v : Int) (ch : Channel) :
    (ch.takeDelivery hold slew v).sched = v ∧ (ch.takeDelivery hold slew v).conv = ch.conv.start := by
  obtain ⟨asched, aconv⟩ := applyTarget_leaves hold slew v { ch with sched := v }
  obtain ⟨csched, cconv⟩ := countDelivery_leaves ({ ch with sched := v }.applyTarget hold slew v)
  obtain ⟨esched, econv⟩ := engageAtZero_leaves ({ ch with sched := v }.applyTarget hold slew v).countDelivery
  exact ⟨esched.trans (csched.trans asched), congrArg Conversion.start (econv.trans (cconv.trans aconv))⟩

/-- The deliveries to channel k, whole as to the scheduled angles and conversions, and the other channels' targets. -/
theorem deliver_sets (k : Chan) (v : Int) (s : State) : ((deliver k v s).ac.get k).sched = v ∧
    ((deliver k v s).ac.get k).conv = (s.ac.get k).conv.start ∧
    ∀ j, j ≠ k → ((deliver k v s).ac.get j).sched = (s.ac.get j).sched ∧
      ((deliver k v s).ac.get j).conv = (s.ac.get j).conv ∧ ((deliver k v s).ac.get j).theta = (s.ac.get j).theta := by
  have left := expiries_leaves k
    (commit k ⟨(s.ac.get k).takeDelivery s.sv.hold (s.ct.table.chan.get k).slew v, []⟩ s)
  obtain ⟨hsched, hconv⟩ := takeDelivery_sets s.sv.hold (s.ct.table.chan.get k).slew v (s.ac.get k)
  obtain ⟨ksched, kconv, -⟩ := left k
  rw [commit_get_self k _ s rfl] at ksched kconv
  refine ⟨ksched.trans hsched, kconv.trans hconv, fun j hj => ?_⟩
  obtain ⟨jsched, jconv, jtheta⟩ := left j
  obtain ⟨osched, oconv, otheta⟩ :=
    (commit_get k ⟨(s.ac.get k).takeDelivery s.sv.hold (s.ct.table.chan.get k).slew v, []⟩ s j).leaves
  rw [Quad.get_set_ne _ _ hj] at osched oconv otheta
  exact ⟨jsched.trans osched, jconv.trans oconv, (jtheta hj).trans otheta⟩

/-! ### A delivery that brings no timer to its limit -/

theorem reached_bump (timer : Option Nat) (limit : Nat) : reached (bump timer) limit = true ↔ Reaches timer limit := by
  cases timer <;> simp [reached, bump, Reaches]

/-- No homing, lock or centring timer of this record stands at its limit where it is watched. -/
structure Channel.InTime (homingLimit lockTime : Nat) (ch : Channel) : Prop where
  homing : ch.state.homes → reached ch.homingT homingLimit = false
  release : ch.state.awaitsRelease → reached ch.lockT lockTime = false
  centring : ch.state = .centring .stepping → reached ch.centringT homingLimit = false
  lock : ch.state.watchesLock → reached ch.lockT lockTime = false

/-- The settle count's end (R105, R108, R133). -/
def Channel.settled (frames : Nat) (hold : HoldMode) (ch : Channel) : Channel :=
  if ch.state = .releasing .settling ∧ reached ch.settle frames then ch.toTracking hold else ch

theorem watches_of_steers {st : ChanState} (h : st.steers = true) : st ≠ .centring .stepping ∧ ¬st.watchesLock := by
  cases st <;> simp_all [ChanState.steers, ChanState.watchesLock]

theorem expiries_inTime (h : (s.ac.get k).InTime s.ct.table.homingLimit s.ct.used.lockTime) :
    expiries k s = settleFramesReached k s := by
  have homing : homingTimeout k s = s := if_neg fun ⟨hs, hr⟩ => Bool.false_ne_true ((h.homing hs).symm.trans hr)
  have release : lockStuck k s = s := if_neg fun ⟨hs, hr⟩ => Bool.false_ne_true ((h.release hs).symm.trans hr)
  unfold expiries
  rw [homing, release]
  by_cases hset : (s.ac.get k).state = .releasing .settling ∧ reached (s.ac.get k).settle s.ct.table.settleFrames
  · have settled : settleFramesReached k s = commit k ⟨(s.ac.get k).toTracking s.sv.hold, []⟩ s := if_pos hset
    have entered := commit_get_self k ⟨(s.ac.get k).toTracking s.sv.hold, []⟩ s rfl
    obtain ⟨centring, watches⟩ := watches_of_steers (Channel.toTracking_steers (s.ac.get k) s.sv.hold)
    have state := congrArg Channel.state entered
    rw [← settled] at state
    rw [← state] at watches
    rw [show centringTimerExpiry k (settleFramesReached k s) = _ from if_neg fun hc => centring (state.symm.trans hc.1)]
    exact if_neg fun hw => watches hw.1
  · have stands : settleFramesReached k s = s := if_neg hset
    rw [stands, show centringTimerExpiry k s = s from
      if_neg fun ⟨hs, hr⟩ => Bool.false_ne_true ((h.centring hs).symm.trans hr)]
    exact if_neg fun ⟨hs, hr⟩ => Bool.false_ne_true ((h.lock hs).symm.trans hr)

/-! ### A delivery calls for no order that was not called for (R129) -/

theorem callsPartnerRule_applyTarget (hold : HoldMode) (slew : Nat) (v : Int) (ch : Channel) :
    callsPartnerRule (ch.applyTarget hold slew v) = callsPartnerRule ch := by
  unfold Channel.applyTarget; (repeat' split) <;> simp_all [callsPartnerRule]

theorem callsPartnerRule_engageAtZero (ch : Channel) : callsPartnerRule ch.engageAtZero = callsPartnerRule ch := by
  unfold Channel.engageAtZero
  split_ifs with h
  · exact (h.1.elim callsPartnerRule_faulted callsPartnerRule_faulted).symm
  · rfl

theorem countDelivery_mark (ch : Channel) : ch.countDelivery.mark = ch.mark := by
  unfold Channel.countDelivery; (repeat' split) <;> rfl

theorem callsPartnerRule_takeDelivery (hold : HoldMode) (slew : Nat) (v : Int) (ch : Channel) :
    callsPartnerRule (ch.takeDelivery hold slew v) = callsPartnerRule ch := by
  calc callsPartnerRule (ch.takeDelivery hold slew v)
    _ = callsPartnerRule ({ ch with sched := v }.applyTarget hold slew v).countDelivery.engageAtZero :=
      callsPartnerRule_congr ⟨rfl, rfl⟩
    _ = callsPartnerRule ({ ch with sched := v }.applyTarget hold slew v).countDelivery := callsPartnerRule_engageAtZero _
    _ = callsPartnerRule ({ ch with sched := v }.applyTarget hold slew v) :=
      callsPartnerRule_congr ⟨Channel.countDelivery_state _, countDelivery_mark _⟩
    _ = callsPartnerRule ch := callsPartnerRule_applyTarget hold slew v { ch with sched := v }

theorem takeDelivery_solitary (hb : BogieInv s) (hold : HoldMode) (slew : Nat) (v : Int) :
    Solitary k ((s.ac.get k).takeDelivery hold slew v) s := by
  cases hc : callsPartnerRule (s.ac.get k)
  · exact .of_quiet ((callsPartnerRule_takeDelivery hold slew v _).trans hc)
  · exact .of_calling hb hc

theorem callsPartnerRule_toTracking (hold : HoldMode) (ch : Channel) : callsPartnerRule (ch.toTracking hold) = false := by
  unfold callsPartnerRule Channel.toTracking; dsimp only; split_ifs <;> rfl

/-- The settle count's end as it stands after a delivery: the channel alone, and the pairing. -/
theorem settleFramesReached_ac (k : Chan) (s : State) : (settleFramesReached k s).ac =
    s.ac.set k ((s.ac.get k).settled s.ct.table.settleFrames s.sv.hold) := by
  unfold settleFramesReached Channel.settled
  dsimp only
  split_ifs
  · exact commit_ac_solitary rfl (.of_quiet (callsPartnerRule_toTracking _ _))
  · exact (Quad.set_self _ _).symm

theorem settleFramesReached_bogie (hb : BogieInv s) (k : Chan) : BogieInv (settleFramesReached k s) := by
  unfold settleFramesReached
  dsimp only
  split_ifs with h
  · exact commit_bogie hb fun _ => .inl (by rw [h.1]; rfl)
  · exact hb

/-- A delivery that brings no timer of its channel to its limit: the channel's record alone changes (R45). -/
theorem deliver_inTime (hb : BogieInv s) (v : Int)
    (h : ((s.ac.get k).takeDelivery s.sv.hold (s.ct.table.chan.get k).slew v).InTime s.ct.table.homingLimit
      s.ct.used.lockTime) :
    BogieInv (deliver k v s) ∧ (deliver k v s).ac = s.ac.set k
      (((s.ac.get k).takeDelivery s.sv.hold (s.ct.table.chan.get k).slew v).settled s.ct.table.settleFrames s.sv.hold) := by
  have eq : deliver k v s = expiries k (commit k ⟨(s.ac.get k).takeDelivery s.sv.hold (s.ct.table.chan.get k).slew v, []⟩ s) :=
    rfl
  have sol := takeDelivery_solitary hb (k := k) s.sv.hold (s.ct.table.chan.get k).slew v
  have unreleased := Channel.takeDelivery_unreleased (s.ac.get k) s.sv.hold (s.ct.table.chan.get k).slew v
  generalize (s.ac.get k).takeDelivery s.sv.hold (s.ct.table.chan.get k).slew v = ch at *
  have hac : (commit k ⟨ch, []⟩ s).ac = s.ac.set k ch := commit_ac_solitary rfl sol
  have hct : (commit k ⟨ch, []⟩ s).ct = s.ct := (commit_onlyAcSv k ⟨ch, []⟩ s).2.2.2.2.2.2.2.1
  have hhold : (commit k ⟨ch, []⟩ s).sv.hold = s.sv.hold := (commit_keepsOrders k ch s).1
  have bogie : BogieInv (commit k ⟨ch, []⟩ s) := commit_bogie hb fun hr => .inl (unreleased hr)
  rw [eq]
  generalize commit k ⟨ch, []⟩ s = s₁ at hac hct hhold bogie
  rw [expiries_inTime (by rw [hac, Quad.get_set_self, hct]; exact h)]
  refine ⟨settleFramesReached_bogie bogie k, ?_⟩
  rw [settleFramesReached_ac, hac, Quad.get_set_self, Quad.set_set, hct, hhold]

/-! ### Which timers a delivery brings to their limit -/

theorem countDelivery_homes (h : ch.state.homes) : ch.countDelivery.homingT = bump ch.homingT := by
  obtain h | h := h <;> (unfold Channel.countDelivery; rw [h])

theorem countDelivery_locks (h : ch.state.awaitsRelease ∨ ch.state.watchesLock) :
    ch.countDelivery.lockT = bump ch.lockT := by
  obtain (h | h | h) | h | h | h | h | h := h <;> (unfold Channel.countDelivery; rw [h])

theorem countDelivery_stepping (h : ch.state = .centring .stepping) :
    ch.countDelivery.centringT = if ch.theta = 0 then bump ch.centringT else ch.centringT := by
  unfold Channel.countDelivery; rw [h]; dsimp only; split_ifs <;> rfl

theorem applyTarget_timers (hold : HoldMode) (slew : Nat) (v : Int) (ch : Channel) :
    (ch.applyTarget hold slew v).homingT = ch.homingT ∧ (ch.applyTarget hold slew v).lockT = ch.lockT ∧
      (ch.applyTarget hold slew v).centringT = ch.centringT := by
  unfold Channel.applyTarget; (repeat' split) <;> exact ⟨rfl, rfl, rfl⟩

/-- The target rule moves TRACKING alone to another state, HOLDING (R132). -/
theorem applyTarget_state (hold : HoldMode) (slew : Nat) (v : Int) (ch : Channel) :
    (ch.applyTarget hold slew v).state = ch.state ∨
      ch.state = .tracking ∧ (ch.applyTarget hold slew v).state = .holding := by
  unfold Channel.applyTarget; (repeat' split) <;> simp_all

theorem applyTarget_stepping (hold : HoldMode) (slew : Nat) (v : Int) (h : ch.state = .centring .stepping) :
    (ch.applyTarget hold slew v).theta = stepToZero slew ch.theta := by
  unfold Channel.applyTarget; rw [h]

theorem stepToZero_eq_zero (slew : Nat) (θ : Int) : stepToZero slew θ = 0 ↔ θ.natAbs ≤ slew := by
  unfold stepToZero; split_ifs <;> omega

/-- The record's next count brings none of its timers to the limit: what `TimesOut` says of a channel in a state, denied. -/
structure Channel.Waits (homingLimit lockTime slew : Nat) (ch : Channel) : Prop where
  homing : ch.state.homes → ¬Reaches ch.homingT homingLimit
  lock : ch.state.awaitsRelease ∨ ch.state.watchesLock → ¬Reaches ch.lockT lockTime
  centring : ch.state = .centring .stepping →
    reached (if ch.theta.natAbs ≤ slew then bump ch.centringT else ch.centringT) homingLimit = false

theorem waits_of_not_TimesOut (h : ¬TimesOut s k) :
    (s.ac.get k).Waits s.ct.table.homingLimit s.ct.table.lockTime (s.ct.table.chan.get k).slew where
  homing hs hr := h (.inl ⟨hs, hr⟩)
  lock hs hr := h <| .inr <| .inl ⟨by
    unfold ChanState.awaitsRelease ChanState.watchesLock at hs
    tauto, hr⟩
  centring hs := Bool.eq_false_iff.2 fun hr => h <| .inr <| .inr ⟨hs, by
    cases hc : (s.ac.get k).centringT with
    | none => rw [hc] at hr; split_ifs at hr <;> exact absurd hr nofun
    | some n =>
      rw [hc] at hr
      refine ⟨n, rfl, ?_⟩
      split_ifs at hr ⊢ <;> exact of_decide_eq_true hr⟩

theorem engageAtZero_inTime {homingLimit lockTime : Nat} (h : ch.InTime homingLimit lockTime) :
    ch.engageAtZero.InTime homingLimit lockTime := by
  unfold Channel.engageAtZero
  split_ifs
  · exact ⟨fun hs => by simp [ChanState.homes] at hs, fun hs => by simp [ChanState.awaitsRelease] at hs, nofun, fun _ => rfl⟩
  · exact h

theorem not_reached_bump {timer : Option Nat} {limit : Nat} (h : ¬Reaches timer limit) :
    reached (bump timer) limit = false :=
  Bool.eq_false_iff.2 (mt (reached_bump timer limit).1 h)

theorem takeDelivery_inTime {homingLimit lockTime slew : Nat} (h : ch.Waits homingLimit lockTime slew) (hold : HoldMode)
    (v : Int) : (ch.takeDelivery hold slew v).InTime homingLimit lockTime := by
  obtain ⟨homingT, lockT, centringT⟩ := applyTarget_timers hold slew v { ch with sched := v }
  have state := applyTarget_state hold slew v { ch with sched := v }
  have stepping := applyTarget_stepping (ch := { ch with sched := v }) hold slew v
  have counted : ({ ch with sched := v }.applyTarget hold slew v).countDelivery.InTime homingLimit lockTime := by
    generalize { ch with sched := v }.applyTarget hold slew v = c at *
    dsimp only at homingT lockT centringT state stepping
    have locks (hs : c.state.awaitsRelease ∨ c.state.watchesLock) : reached c.countDelivery.lockT lockTime = false := by
      rw [countDelivery_locks hs, lockT]
      refine not_reached_bump (h.lock ?_)
      obtain state | ⟨tracking, -⟩ := state
      exacts [state ▸ hs, .inl (.inr (.inl tracking))]
    constructor
    all_goals
      rw [Channel.countDelivery_state]
      intro hs
    · rw [countDelivery_homes hs, homingT]
      obtain state | ⟨-, holding⟩ := state
      · exact not_reached_bump (h.homing (state ▸ hs))
      · rw [holding] at hs; exact absurd hs (by simp [ChanState.homes])
    · exact locks (.inl hs)
    · obtain state | ⟨-, holding⟩ := state
      · have waits := h.centring (state.symm.trans hs)
        rw [countDelivery_stepping hs, stepping (state.symm.trans hs), centringT]
        simpa only [stepToZero_eq_zero] using waits
      · exact absurd (holding.symm.trans hs) nofun
    · exact locks (.inr hs)
  obtain ⟨homing, release, centring, lock⟩ := engageAtZero_inTime counted
  exact ⟨homing, release, centring, lock⟩

end Sys2Proof.Machine

/-! # What a delivery makes of a record, by its state (R91, R97, R98, R101, R105, R109, R112, R113, R115, R116, R118, R132) -/

namespace Sys2Proof.Machine

variable {ch : Channel} {frames slew : Nat} {hold : HoldMode} {v : Int}

/-- The record after a delivery that brings none of its homing, lock and centring timers to a limit. -/
def Channel.served (frames : Nat) (hold : HoldMode) (slew : Nat) (v : Int) (ch : Channel) : Channel :=
  (ch.takeDelivery hold slew v).settled frames hold

/-- The record with the scheduled angle kept and a conversion started, before the target rule. -/
def Channel.based (v : Int) (ch : Channel) : Channel := { ch with sched := v, conv := ch.conv.start }

theorem start_eq (c : Conversion) : c.start = if c = .none then .inFlight false else c := by
  cases c with
  | none => rfl
  | inFlight r => rw [if_neg nofun]; rfl

theorem served_rests (h : ch.state = .unhomed ∨ ch.state = .homing .capturing) :
    ch.served frames hold slew v = { ch.based v with theta := 0 } := by
  cases ch; dsimp only at h; obtain rfl | rfl := h <;> rfl

theorem served_homes (h : ch.state = .homing .assessing ∨ ch.state = .homing .seeking) :
    ch.served frames hold slew v = { ch.based v with theta := 0, homingT := bump ch.homingT } := by
  cases ch; dsimp only at h; obtain rfl | rfl := h <;> rfl

theorem served_locks (h : ch.state = .homing .engaging ∨ ch.state = .locked ∨ ch.state = .releasing .awaiting) :
    ch.served frames hold slew v = { ch.based v with theta := 0, lockT := bump ch.lockT } := by
  cases ch; dsimp only at h; obtain rfl | rfl | rfl := h <;> rfl

theorem takeDelivery_settling (h : ch.state = .releasing .settling) :
    ch.takeDelivery hold slew v = { ch.based v with theta := 0, settle := bump ch.settle } := by
  cases ch; dsimp only at h; subst h; rfl

theorem served_settling (h : ch.state = .releasing .settling) (hr : ¬Reaches ch.settle frames) :
    ch.served frames hold slew v = { ch.based v with theta := 0, settle := bump ch.settle } := by
  unfold Channel.served Channel.settled
  rw [takeDelivery_settling h, if_neg fun hs => hr ((reached_bump _ _).1 hs.2)]

theorem served_settled (h : ch.state = .releasing .settling) (hr : Reaches ch.settle frames) :
    ch.served frames hold slew v = { ch.based v with
      state := if hold = .none then .tracking else .holding, theta := 0, persist := 0, homingT := none, lockT := none,
      settle := none, centringT := none } := by
  unfold Channel.served Channel.settled
  rw [takeDelivery_settling h]
  exact if_pos ⟨h, (reached_bump _ _).2 hr⟩

theorem served_tracks (h : ch.state = .tracking) (hh : hold = .none) :
    ch.served frames hold slew v = { ch.based v with theta := v, lockT := bump ch.lockT } := by
  cases ch; dsimp only at h; subst h hh; rfl

theorem served_holdsAtOnce (h : ch.state = .tracking) (hh : hold = .immediate) :
    ch.served frames hold slew v = { ch.based v with state := .holding, lockT := bump ch.lockT } := by
  cases ch; dsimp only at h; subst h hh; rfl

theorem served_holdsAtCentre (h : ch.state = .tracking) (hh : hold = .atCentre) :
    ch.served frames hold slew v = { ch.based v with
      state := if ch.theta.natAbs ≤ slew then .holding else .tracking, theta := stepToZero slew ch.theta,
      lockT := bump ch.lockT } := by
  cases ch; dsimp only at h; subst h hh
  unfold Channel.served Channel.takeDelivery Channel.applyTarget stepToZero
  dsimp only
  split_ifs <;> rfl

theorem served_holding (h : ch.state = .holding) :
    ch.served frames hold slew v = { ch.based v with lockT := bump ch.lockT } := by
  cases ch; dsimp only at h; subst h; rfl

theorem served_stepping (h : ch.state = .centring .stepping) :
    ch.served frames hold slew v = { ch.based v with
      theta := stepToZero slew ch.theta,
      centringT := if stepToZero slew ch.theta = 0 then bump ch.centringT else ch.centringT } := by
  cases ch; dsimp only at h; subst h
  unfold Channel.served Channel.takeDelivery Channel.applyTarget Channel.countDelivery
  dsimp only
  split_ifs <;> rfl

theorem served_engaging (h : ch.state = .centring .engaging ∨ ch.state = .faulted .lockEngaged) :
    ch.served frames hold slew v = { ch.based v with theta := stepToZero slew ch.theta, lockT := bump ch.lockT } := by
  cases ch; dsimp only at h; obtain rfl | rfl := h <;> rfl

theorem engageAtZero_conv (c : Conversion) (ch : Channel) :
    { ch with conv := c }.engageAtZero = { ch.engageAtZero with conv := c } := by
  unfold Channel.engageAtZero
  dsimp only
  split_ifs <;> rfl

/-- The conversion that a delivery starts plays no part in the test for the lock engaged. -/
theorem takeDelivery_eq (ch : Channel) : ch.takeDelivery hold slew v =
    { ({ ch with sched := v }.applyTarget hold slew v).countDelivery with conv := ch.conv.start }.engageAtZero := by
  obtain ⟨-, conv⟩ := takeDelivery_sets hold slew v ch
  rw [engageAtZero_conv, ← conv]
  rfl

theorem takeDelivery_lockAwaited (h : ch.state = .faulted .lockAwaited) : ch.takeDelivery hold slew v =
    { ch.based v with theta := stepToZero slew ch.theta, lockT := bump ch.lockT }.engageAtZero := by
  rw [takeDelivery_eq]; cases ch; dsimp only at h; subst h; rfl

theorem takeDelivery_lockFailed (h : ch.state = .faulted .lockFailed) : ch.takeDelivery hold slew v =
    { ch.based v with theta := stepToZero slew ch.theta }.engageAtZero := by
  rw [takeDelivery_eq]; cases ch; dsimp only at h; subst h; rfl

theorem settled_of_not (h : ch.state ≠ .releasing .settling) : ch.settled frames hold = ch := if_neg fun hs => h hs.1

theorem served_engages (h : ch.state = .faulted .lockAwaited ∨ ch.state = .faulted .lockFailed)
    (hc : ch.contact = .engaged) (hz : stepToZero slew ch.theta = 0) :
    ch.served frames hold slew v = { ch.based v with
      state := .faulted .lockEngaged, theta := 0, drive := .off, lockT := none } := by
  unfold Channel.served
  obtain h | h := h
  · rw [takeDelivery_lockAwaited h, hz, engageAtZero_engaged (ch := { ch.based v with theta := 0, lockT := bump ch.lockT })
      (.inl h) hc rfl]
    exact settled_of_not nofun
  · rw [takeDelivery_lockFailed h, hz, engageAtZero_engaged (ch := { ch.based v with theta := 0 }) (.inr h) hc rfl]
    exact settled_of_not nofun

theorem served_lockAwaited (h : ch.state = .faulted .lockAwaited)
    (hn : ch.contact ≠ .engaged ∨ stepToZero slew ch.theta ≠ 0) :
    ch.served frames hold slew v = { ch.based v with theta := stepToZero slew ch.theta, lockT := bump ch.lockT } := by
  unfold Channel.served
  rw [takeDelivery_lockAwaited h, engageAtZero_not hn, settled_of_not (h ▸ nofun)]

theorem served_lockFailed (h : ch.state = .faulted .lockFailed)
    (hn : ch.contact ≠ .engaged ∨ stepToZero slew ch.theta ≠ 0) :
    ch.served frames hold slew v = { ch.based v with theta := stepToZero slew ch.theta } := by
  unfold Channel.served
  rw [takeDelivery_lockFailed h, engageAtZero_not hn, settled_of_not (h ▸ nofun)]

end Sys2Proof.Machine

/-! # A hand-over at the Steering Schedule (R29 to R36, R38, R41 to R45, R47, R49, R50) -/

namespace Sys2Proof.Machine

variable {s t u : State} {k : Chan}

/-! ### Channel by channel -/

/-- An operation on each channel in turn that changes what is read of its own channel alone: each channel's part is found as
it stood, and its outcome stands at the end. -/
theorem eachChannel_reads {α : Type} {f : Chan → State → State} {F : State → Prop} {get : State → Chan → α}
    {P : Chan → α → Prop}
    (hf : ∀ k u, F u → get u k = get s k →
      F (f k u) ∧ (∀ j, j ≠ k → get (f k u) j = get u j) ∧ P k (get (f k u) k)) (hs : F s) :
    F (eachChannel f s) ∧ ∀ k, P k (get (eachChannel f s) k) := by
  obtain ⟨f1, o1, p1⟩ := hf .c1 s hs rfl
  obtain ⟨f2, o2, p2⟩ := hf .c2 _ f1 (o1 .c2 nofun)
  obtain ⟨f3, o3, p3⟩ := hf .c3 _ f2 ((o2 .c3 nofun).trans (o1 .c3 nofun))
  obtain ⟨f4, o4, p4⟩ := hf .c4 _ f3 ((o3 .c4 nofun).trans ((o2 .c4 nofun).trans (o1 .c4 nofun)))
  refine ⟨f4, fun k => ?_⟩
  unfold eachChannel
  cases k with
  | c1 => rw [o4 .c1 nofun, o3 .c1 nofun, o2 .c1 nofun]; exact p1
  | c2 => rw [o4 .c2 nofun, o3 .c2 nofun]; exact p2
  | c3 => rw [o4 .c3 nofun]; exact p3
  | c4 => exact p4

/-! ### The schedule's work for one channel -/

/-- Only the schedule, the channels and the Supervisor may differ, and the hold mode stands. -/
structure KeepsBlocks (s t : State) : Prop where
  power : t.power = s.power
  li : t.li = s.li
  aa : t.aa = s.aa
  rw : t.rw = s.rw
  odo : t.odo = s.odo
  pfu : t.pfu = s.pfu
  ct : t.ct = s.ct
  path : t.path = s.path
  pending : t.pending = s.pending
  hold : t.sv.hold = s.sv.hold

theorem KeepsBlocks.refl (s : State) : KeepsBlocks s s := ⟨rfl, rfl, rfl, rfl, rfl, rfl, rfl, rfl, rfl, rfl⟩

theorem KeepsBlocks.trans (h : KeepsBlocks s t) (h' : KeepsBlocks t u) : KeepsBlocks s u where
  power := h'.power.trans h.power
  li := h'.li.trans h.li
  aa := h'.aa.trans h.aa
  rw := h'.rw.trans h.rw
  odo := h'.odo.trans h.odo
  pfu := h'.pfu.trans h.pfu
  ct := h'.ct.trans h.ct
  path := h'.path.trans h.path
  pending := h'.pending.trans h.pending
  hold := h'.hold.trans h.hold

/-- The schedule record of channel k replaced and its source reported, before the delivery. -/
def recorded (k : Chan) (r : SsRec) (s : State) : State := reportSource k (s.setSs (s.ss.set k r))

theorem recorded_keeps (k : Chan) (r : SsRec) (s : State) : KeepsBlocks s (recorded k r s) := by
  obtain ⟨hpower, hli, haa, hrw, hodo, hpfu, -, -, hct, hpath, hpending⟩ :=
    reportSource_onlySv k (s.setSs (s.ss.set k r))
  exact ⟨hpower, hli, haa, hrw, hodo, hpfu, hct, hpath, hpending, (reportSource_keeps k _).1⟩

theorem recorded_ss (k : Chan) (r : SsRec) (s : State) : (recorded k r s).ss = s.ss.set k r := by
  obtain ⟨-, -, -, -, -, -, hss, -⟩ := reportSource_onlySv k (s.setSs (s.ss.set k r))
  exact hss

theorem recorded_ac (k : Chan) (r : SsRec) (s : State) : (recorded k r s).ac = s.ac := reportSource_ac k _

theorem recorded_bogie (k : Chan) (r : SsRec) (hb : BogieInv s) : BogieInv (recorded k r s) := by
  unfold BogieInv
  rw [recorded_ac, show (recorded k r s).sv.latch = s.sv.latch from (reportSource_keeps k _).2]
  exact hb

/-- A delivery keeps the hold mode: its thresholds send centring orders and set the latch alone (R138). -/
theorem commit_hold (k : Chan) (st : ChanStep) (s : State) : (commit k st s).sv.hold = s.sv.hold :=
  (commit_orders k st s).1

theorem expiries_hold (k : Chan) (s : State) : (expiries k s).sv.hold = s.sv.hold := by
  have homing (s : State) : (homingTimeout k s).sv.hold = s.sv.hold := by
    unfold homingTimeout; dsimp only; split_ifs; exacts [commit_hold _ _ _, rfl]
  have stuck (s : State) : (lockStuck k s).sv.hold = s.sv.hold := by
    unfold lockStuck; dsimp only; split_ifs; exacts [commit_hold _ _ _, rfl]
  have settle (s : State) : (settleFramesReached k s).sv.hold = s.sv.hold := by
    unfold settleFramesReached; dsimp only; split_ifs; exacts [commit_hold _ _ _, rfl]
  have centring (s : State) : (centringTimerExpiry k s).sv.hold = s.sv.hold := by
    unfold centringTimerExpiry; dsimp only; split_ifs
    exacts [(commit_hold _ _ _).trans (commit_hold _ _ _), (commit_hold _ _ _).trans (commit_hold _ _ _), rfl]
  have fails (s : State) : (lockFail k s).sv.hold = s.sv.hold := by
    unfold lockFail; dsimp only; split_ifs; exacts [commit_hold _ _ _, rfl]
  unfold expiries
  rw [fails, centring, settle, stuck, homing]

theorem deliver_keepsBlocks (k : Chan) (v : Int) (s : State) : KeepsBlocks s (deliver k v s) ∧ (deliver k v s).ss = s.ss := by
  obtain ⟨hpower, hli, haa, hrw, hodo, hpfu, hss, hct, hpath, hpending⟩ := deliver_onlyAcSv k v s
  exact ⟨⟨hpower, hli, haa, hrw, hodo, hpfu, hct, hpath, hpending, (expiries_hold k _).trans (commit_hold k _ s)⟩, hss⟩

section
variable {sample : Sample} {e : HandEntry}

/-- The record, and the value delivered, that a hand-over's entry gives a fitted channel. -/
def scheduledRecord (e : HandEntry) (k : Chan) (s : State) : SsRec := (chosenFor s k e).record

def scheduledTarget (sample : Sample) (e : HandEntry) (k : Chan) (s : State) : Int :=
  newTarget s k sample.slip (chosenFor s k e).record.source (chosenFor s k e).curvature e.points

theorem scheduleChannel_unfitted (h : fitted s k = false) : scheduleChannel sample e k s = s :=
  if_neg (by rw [h]; nofun)

theorem scheduleChannel_fitted (h : fitted s k = true) : scheduleChannel sample e k s =
    deliver k (scheduledTarget sample e k s) (recorded k (scheduledRecord e k s) s) := if_pos h

theorem scheduleChannel_keeps (sample : Sample) (e : HandEntry) (k : Chan) (s : State) :
    KeepsBlocks s (scheduleChannel sample e k s) := by
  cases h : fitted s k
  · rw [scheduleChannel_unfitted h]; exact .refl s
  · rw [scheduleChannel_fitted h]; exact (recorded_keeps _ _ _).trans (deliver_keepsBlocks _ _ _).1

theorem scheduled_congr (h : KeepsBlocks s u) (hss : u.ss.get k = s.ss.get k)
    (hθ : (u.ac.get k).theta = (s.ac.get k).theta) :
    scheduledRecord e k u = scheduledRecord e k s ∧ scheduledTarget sample e k u = scheduledTarget sample e k s := by
  have chosen : chosenFor u k e = chosenFor s k e := by
    unfold chosenFor; rw [hss, h.rw, h.pfu, h.ct]
  unfold scheduledRecord scheduledTarget newTarget
  rw [chosen, h.ct, h.rw, hθ]
  exact ⟨rfl, rfl⟩

end

/-! ### The sample at the schedule -/

/-- What a sample at the schedule gives each channel, fitted or not: its record, scheduled angle, conversion and target. -/
def scheduleOf (s : State) (k : Chan) : SsRec × Int × Conversion × Int :=
  (s.ss.get k, (s.ac.get k).sched, (s.ac.get k).conv, (s.ac.get k).theta)

/-- Each fitted channel has its record, its scheduled angle and its conversion; any other has what it had. -/
def Scheduled (h : HandOver) (s : State) (k : Chan) (x : SsRec × Int × Conversion × Int) : Prop :=
  if fitted s k then x.1 = scheduledRecord (h.entries.get k) k s ∧
    x.2.1 = scheduledTarget h.sample (h.entries.get k) k s ∧ x.2.2.1 = (s.ac.get k).conv.start
  else x = scheduleOf s k

theorem KeepsBlocks.fitted (h : KeepsBlocks s u) (k : Chan) : Machine.fitted u k = Machine.fitted s k := by
  unfold Machine.fitted; rw [h.ct]

theorem scheduleChannel_others (sample : Sample) (e : HandEntry) (k : Chan) (s : State) {j : Chan} (hj : j ≠ k) :
    scheduleOf (scheduleChannel sample e k s) j = scheduleOf s j := by
  cases h : fitted s k
  · rw [scheduleChannel_unfitted h]
  · rw [scheduleChannel_fitted h]
    obtain ⟨-, -, others⟩ := deliver_sets k (scheduledTarget sample e k s) (recorded k (scheduledRecord e k s) s)
    obtain ⟨hsched, hconv, htheta⟩ := others j hj
    unfold scheduleOf
    rw [hsched, hconv, htheta, (deliver_keepsBlocks _ _ _).2, recorded_ss, recorded_ac, Quad.get_set_ne _ _ hj]

theorem scheduleChannel_schedules {h : HandOver} (hk : KeepsBlocks s u) (hsame : scheduleOf u k = scheduleOf s k) :
    Scheduled h s k (scheduleOf (scheduleChannel h.sample (h.entries.get k) k u) k) := by
  unfold Scheduled scheduleOf at *
  simp only [Prod.mk.injEq] at hsame
  obtain ⟨hss, hsched, hconv, htheta⟩ := hsame
  obtain ⟨record, target⟩ := scheduled_congr (sample := h.sample) (e := h.entries.get k) hk hss htheta
  cases hf : fitted s k
  · rw [scheduleChannel_unfitted ((hk.fitted k).trans hf), hss, hsched, hconv, htheta, if_neg nofun]
  · rw [scheduleChannel_fitted ((hk.fitted k).trans hf), record, target, if_pos rfl]
    obtain ⟨ksched, kconv, -⟩ := deliver_sets k (scheduledTarget h.sample (h.entries.get k) k s)
      (recorded k (scheduledRecord (h.entries.get k) k s) u)
    rw [(deliver_keepsBlocks _ _ _).2, recorded_ss, Quad.get_set_self, ksched, kconv, recorded_ac, hconv]
    exact ⟨rfl, rfl, rfl⟩

theorem scheduleTakes_schedules (h : HandOver) (s : State) :
    KeepsBlocks s (scheduleTakes h s) ∧ ∀ k, Scheduled h s k (scheduleOf (scheduleTakes h s) k) :=
  eachChannel_reads (f := fun k => scheduleChannel h.sample (h.entries.get k) k) (F := KeepsBlocks s)
    (fun k u hu hsame => ⟨hu.trans (scheduleChannel_keeps _ _ k u), fun _ hj => scheduleChannel_others _ _ k u hj,
      scheduleChannel_schedules hu hsame⟩) (.refl s)

/-! ### A sample that brings no timer to its limit -/

/-- The record of each fitted channel after its delivery; any other as it was. -/
def Served (h : HandOver) (s : State) (k : Chan) (ch : Channel) : Prop :=
  ch = if fitted s k then (s.ac.get k).served s.ct.table.settleFrames s.sv.hold (s.ct.table.chan.get k).slew
    (scheduledTarget h.sample (h.entries.get k) k s) else s.ac.get k

/-- One channel's turn in such a sample. -/
theorem scheduleChannel_serves {h : HandOver} (hlock : s.ct.used.lockTime = s.ct.table.lockTime)
    (hq : fitted s k = true → ¬TimesOut s k) (hk : KeepsBlocks s u) (hb : BogieInv u) (hss : u.ss.get k = s.ss.get k)
    (hac : u.ac.get k = s.ac.get k) :
    BogieInv (scheduleChannel h.sample (h.entries.get k) k u) ∧
      (∀ j, j ≠ k → (scheduleChannel h.sample (h.entries.get k) k u).ac.get j = u.ac.get j) ∧
      Served h s k ((scheduleChannel h.sample (h.entries.get k) k u).ac.get k) := by
  obtain ⟨record, target⟩ := scheduled_congr (sample := h.sample) (e := h.entries.get k) hk hss (by rw [hac])
  unfold Served
  cases hf : fitted s k
  · rw [scheduleChannel_unfitted ((hk.fitted k).trans hf), hac, if_neg nofun]
    exact ⟨hb, fun _ _ => rfl, rfl⟩
  · rw [scheduleChannel_fitted ((hk.fitted k).trans hf), record, target, if_pos rfl]
    have hrec := recorded_keeps k (scheduledRecord (h.entries.get k) k s) u
    have inTime := takeDelivery_inTime (waits_of_not_TimesOut (hq hf)) s.sv.hold
      (scheduledTarget h.sample (h.entries.get k) k s)
    have bogie := recorded_bogie k (scheduledRecord (h.entries.get k) k s) hb
    have same := recorded_ac k (scheduledRecord (h.entries.get k) k s) u
    generalize recorded k (scheduledRecord (h.entries.get k) k s) u = w at hrec bogie same
    obtain ⟨bogie', served⟩ := deliver_inTime (k := k) bogie (scheduledTarget h.sample (h.entries.get k) k s)
      (by rw [same, hac, hrec.hold, hk.hold, hrec.ct, hk.ct, hlock]; exact inTime)
    rw [same, hac, hrec.hold, hk.hold, hrec.ct, hk.ct] at served
    rw [served]
    exact ⟨bogie', fun j hj => Quad.get_set_ne _ _ hj, Quad.get_set_self _ _ _⟩

theorem scheduleTakes_serves (h : HandOver) (hlock : s.ct.used.lockTime = s.ct.table.lockTime) (hb : BogieInv s)
    (hq : ∀ k, fitted s k = true → ¬TimesOut s k) (k : Chan) : Served h s k ((scheduleTakes h s).ac.get k) :=
  (eachChannel_reads (f := fun k => scheduleChannel h.sample (h.entries.get k) k) (get := fun u k => (u.ss.get k, u.ac.get k))
    (F := fun u => KeepsBlocks s u ∧ BogieInv u) (P := fun k x => Served h s k x.2)
    (fun k u ⟨hu, hbu⟩ hsame => by
      obtain ⟨hss, hac⟩ := Prod.mk.inj hsame
      obtain ⟨bogie, others, served⟩ := scheduleChannel_serves hlock (hq k) hu hbu hss hac
      refine ⟨⟨hu.trans (scheduleChannel_keeps _ _ k u), bogie⟩, fun j hj => ?_, served⟩
      exact Prod.ext (congrArg Prod.fst (scheduleChannel_others h.sample (h.entries.get k) k u hj) :) (others j hj))
    ⟨.refl s, hb⟩).2 k

end Sys2Proof.Machine

/-! # The choice of the curvature source, and the sample at the schedule (R31, R33 to R36, R43, R49) -/

namespace Sys2Proof.Machine

variable {s t : State} {k : Chan}

/-! ### The choice (R33 to R36) -/

theorem signFactor_eq (k : Chan) (lead : VehicleEnd) :
    signFactor k lead = if decide (lead = .a) = k.isASide then 1 else -1 := by
  cases lead <;> cases k <;> rfl

/-- Without an answer of the window that serves the channel, the choice counts on (R35, R36). -/
theorem choose_unserved (old : SsRec) {served : Bool} (isOpen : Bool) (limit : Nat) {pts : Option Points}
    (h : served = false ∨ ∀ p q cp cq, pts ≠ some ⟨p, q, some cp, cq⟩) :
    old.choose served isOpen limit pts = old.carryOn limit (if isOpen then pts.map (·.q) else none) := by
  unfold SsRec.choose
  dsimp only
  split
  · exact absurd rfl (h.resolve_left nofun _ _ _ _)
  · exact absurd rfl (h.resolve_left nofun _ _ _ _)
  · rfl

theorem carryOn_carried {old : SsRec} {limit : Nat} (hs : old.source ≠ .decaying) (hn : min (old.carry + 1) 65535 ≤ limit)
    (look : Option Int) : old.carryOn limit look = ⟨⟨.carried, old.carried, min (old.carry + 1) 65535, look⟩, old.carried⟩ :=
  if_pos ⟨hs, hn⟩

theorem carryOn_decaying {old : SsRec} {limit : Nat} (h : old.source = .decaying ∨ limit < min (old.carry + 1) 65535)
    (look : Option Int) : old.carryOn limit look = ⟨⟨.decaying, old.carried, min (old.carry + 1) 65535, look⟩, 0⟩ :=
  if_neg fun ⟨hs, hn⟩ => h.elim hs (Nat.not_lt.2 hn)

theorem Scheduled.of_unfitted {h : HandOver} {x : SsRec × Int × Conversion × Int} (hx : Scheduled h s k x)
    (hf : fitted s k = false) : x = scheduleOf s k := by
  unfold Scheduled at hx; rwa [if_neg (by rw [hf]; nofun)] at hx

theorem Scheduled.of_fitted {h : HandOver} {x : SsRec × Int × Conversion × Int} (hx : Scheduled h s k x)
    (hf : fitted s k = true) : x.1 = scheduledRecord (h.entries.get k) k s ∧
      x.2.1 = scheduledTarget h.sample (h.entries.get k) k s ∧ x.2.2.1 = (s.ac.get k).conv.start := by
  unfold Scheduled at hx; rwa [if_pos hf] at hx

/-- A junction's cap (R43). -/
theorem capLimit_some (lim : Nat) (c : Covering) : capLimit lim (some c) =
    match c.geo with
    | .junction _ cap => min lim cap
    | _ => lim := by
  obtain ⟨start, len, geo⟩ := c
  cases geo <;> rfl

/-! ### CARRY_LIMIT_EXCEEDED standing alone (R36, R38, R49) -/

/-- A CARRIED channel past the carry limit of the last sample. -/
def CarriesTooLong (s : State) (k : Chan) : Prop :=
  fitted s k = true ∧ (s.ss.get k).source = .carried ∧ s.ct.used.carryLimit < (s.ss.get k).carry

theorem exec_carryLimitExceeded (hon : s.power = .on) (h : CarriesTooLong s k) :
    exec (.carryLimitExceeded k) s = .next (recorded k { s.ss.get k with source := .decaying } s) :=
  exec_event_eq (f := carryLimitExceeded k) hon (if_pos h)

theorem exec_carryLimitExceeded_not (hon : s.power = .on) (h : ¬CarriesTooLong s k) :
    exec (.carryLimitExceeded k) s = .next s :=
  exec_event_eq (f := carryLimitExceeded k) hon (if_neg h)

/-! ### The sample -/

/-- The hand-over that arrives, taken from the path with the limits as configured (R49, R122). -/
def arrived (rest : List HandOver) (s : State) : State := useLimits (s.setPath { s.path with atSs := rest })

theorem exec_sampleAtSs {h : HandOver} {rest : List HandOver} (hon : s.power = .on) (hp : s.path.atSs = h :: rest) :
    exec .sampleAtSs s = .next (scheduleTakes h (arrived rest s)) := by
  refine exec_event_eq (f := sampleAtSs) hon ?_
  unfold sampleAtSs
  rw [hp]
  rfl

theorem exec_sampleAtSs_none (hon : s.power = .on) (hp : s.path.atSs = []) : exec .sampleAtSs s = .next s := by
  refine exec_event_eq (f := sampleAtSs) hon ?_
  unfold sampleAtSs
  rw [hp]

/-- Settles O49: each fitted channel's choice and delivery are those of its own turn, since the turns of the others leave its
schedule record, its target, its scheduled angle and its conversion; and without a timer at its limit the whole record. -/
theorem sampleAtScheduleChoosesAndDelivers : Obligations.SampleAtScheduleChoosesAndDelivers := by
  unfold Obligations.SampleAtScheduleChoosesAndDelivers
  intro s hon
  refine ⟨exec_sampleAtSs_none hon, fun h rest hp => ?_, fun k hf hs hc => ?_, fun k hn => ?_, rfl⟩
  · obtain ⟨keeps, scheduled⟩ := scheduleTakes_schedules h (arrived rest s)
    have serves (hb : BogieInv s) (hq : ∀ j, fitted s j = true → ¬TimesOut s j) (k : Chan) :=
      scheduleTakes_serves h (s := arrived rest s) rfl hb hq k
    refine ⟨_, exec_sampleAtSs hon hp, keeps.path, keeps.power.trans hon, keeps.li, keeps.aa, keeps.rw, keeps.odo, keeps.pfu,
      keeps.ct, keeps.hold, keeps.pending, fun k => ?_⟩
    generalize scheduleTakes h (arrived rest s) = t at *
    intro old ch cfg pts served σ gain target cap at_ given
    refine ⟨fun hf => ?_, fun hf => ?_⟩
    · have stands := (scheduled k).of_unfitted hf
      unfold scheduleOf at stands
      simp only [Prod.mk.injEq] at stands
      obtain ⟨hss, hsched, -, htheta⟩ := stands
      exact ⟨hss, htheta, hsched⟩
    obtain ⟨hss, hsched, hconv⟩ := (scheduled k).of_fitted hf
    have aims (src : Source) (κ : Int) : newTarget (arrived rest s) k h.sample.slip src κ pts =
        target κ (angleLimitFor src cfg.angleLimit pts) := by
      unfold newTarget; rw [signFactor_eq]; rfl
    have chosen {c : Chosen} (hc : old.choose (s.rw.isOpen && s.pfu.conf == .placed) s.rw.isOpen s.ct.table.carryLimit pts = c) :
        t.ss.get k = c.record ∧
          (t.ac.get k).sched = target c.curvature (angleLimitFor c.record.source cfg.angleLimit pts) := by
      subst hc
      exact ⟨hss, hsched.trans (aims _ _)⟩
    have serving (hs : served) : (s.rw.isOpen && s.pfu.conf == .placed) = true := by
      rw [hs.1, hs.2]; rfl
    refine ⟨fun p q cp cq hs hpts => ?_, fun p q cp hs hpts => ?_, fun hn => ?_, hconv.trans (start_eq _), fun hb hq => ?_⟩
    · obtain ⟨record, value⟩ := chosen (c := ⟨⟨.fromWindow, at_ cq q, 0, some q⟩, at_ cq q⟩) (by rw [serving hs, hpts]; rfl)
      have limit : angleLimitFor .fromWindow cfg.angleLimit pts = cap cp (cap cq cfg.angleLimit) := by
        rw [hpts]
        exact (capLimit_some _ cp).trans (congrArg (cap cp) (capLimit_some _ cq))
      exact ⟨record, value.trans (congrArg (target _) limit)⟩
    · obtain ⟨record, value⟩ := chosen (c := ⟨⟨.fromWindowShort, at_ cp p, 0, some p⟩, at_ cp p⟩) (by rw [serving hs, hpts]; rfl)
      have limit : angleLimitFor .fromWindowShort cfg.angleLimit pts = cap cp cfg.angleLimit := by
        rw [hpts]
        exact capLimit_some _ cp
      exact ⟨record, value.trans (congrArg (target _) limit)⟩
    · have unserved := choose_unserved old s.rw.isOpen s.ct.table.carryLimit (pts := pts)
        (served := s.rw.isOpen && s.pfu.conf == .placed) (hn.imp_left fun hs => Bool.eq_false_iff.2 fun hb =>
          hs (by rwa [Bool.and_eq_true, beq_iff_eq] at hb))
      intro n look
      exact ⟨fun hs hl => chosen (unserved.trans (carryOn_carried hs hl _)),
        fun hd => chosen (unserved.trans (carryOn_decaying hd _))⟩
    · have serve : t.ac.get k = ch.served s.ct.table.settleFrames s.sv.hold cfg.slew (t.ac.get k).sched := by
        rw [show (t.ac.get k).sched = _ from hsched]
        exact (serves hb hq k).trans (if_pos hf)
      intro v base plus stepped becomes
      have hbase : base = ch.based v := congrArg (fun c => { ch with sched := v, conv := c }) hconv
      clear_value base
      subst hbase
      exact ⟨fun hst => serve.trans (served_rests hst), fun hst => serve.trans (served_homes hst),
        fun hst => serve.trans (served_locks hst), fun hst hr => serve.trans (served_settling hst hr),
        fun hst hr => serve.trans (served_settled hst hr), fun hst hh => serve.trans (served_tracks hst hh),
        fun hst hh => serve.trans (served_holdsAtOnce hst hh), fun hst hh => serve.trans (served_holdsAtCentre hst hh),
        fun hst => serve.trans (served_holding hst), fun hst => serve.trans (served_stepping hst),
        fun hst => serve.trans (served_engaging hst), fun hst hc hz => serve.trans (served_engages hst hc hz),
        fun hst hn => serve.trans (served_lockAwaited hst hn), fun hst hn => serve.trans (served_lockFailed hst hn)⟩
  · have taken := exec_carryLimitExceeded hon ⟨hf, hs, hc⟩
    obtain ⟨hpower, hli, haa, hrw, hodo, hpfu, hct, hpath, hpending, -⟩ :=
      recorded_keeps k { s.ss.get k with source := .decaying } s
    have hss := recorded_ss k { s.ss.get k with source := .decaying } s
    refine ⟨_, taken, by rw [hss, Quad.get_set_self], fun j hj => by rw [hss, Quad.get_set_ne _ _ hj], ?_,
      reportSource_keeps k _, hpower.trans hon, hli, haa, hrw, hodo, hpfu, recorded_ac _ _ _, hct, hpath, hpending⟩
    refine (reportSource_source k _).trans ?_
    rw [show (reportSource k _).ss = _ from hss, Quad.get_set_self]
  · refine exec_carryLimitExceeded_not hon fun ⟨hf, hs, hc⟩ => ?_
    obtain h | h | h := hn
    exacts [Bool.false_ne_true (h.symm.trans hf), h hs, Nat.not_lt.2 h hc]

end Sys2Proof.Machine
